-- ==== Sys2Proof/Word.lean ====
section
/-! DEFINITION. The one unit of data that crosses the part's bus and its management interface: the byte (R176). -/

namespace Sys2Proof

/-- A byte: one data byte of a frame, or one byte of a table record. -/
abbrev Byte := BitVec 8

end Sys2Proof
end

