-- ==== Sys2Proof/Syntax.lean ====
section
/-! DEFINITION. The commands: one constructor of `Instr` for each row of spec/opcode_table.json, with the operands the
spec's rules give the step (the object it happens at, the frame that arrives, how a write ended). What a block has
been sent and holds (a captured request, a hand-off, a notice, a publication) is no operand: it stands in the state's
queues, and the command takes the oldest. -/

namespace Sys2Proof

/-- The two frame ports: backbone and field (chapter 1). -/
inductive PortId where
  | bp | fp
  deriving DecidableEq, Repr

/-- The port other than the given one: where a frame that arrived here is forwarded to. -/
def PortId.other : PortId → PortId
  | .bp => .fp
  | .fp => .bp

/-- DATA or REMOTE (1.1). -/
inductive FrameKind where
  | data | remote
  deriving DecidableEq, Repr

/-- A frame's format and identifier in one: STANDARD has eleven bits, EXTENDED twenty-nine (1.1). -/
inductive CanId where
  | standard (ident : BitVec 11)
  | extended (ident : BitVec 29)
  deriving DecidableEq, Repr

/-- A frame as a port holds it (1.1): format and identifier, kind, length code as it appeared on the bus, data bytes. The
data length is the length of `data`. -/
structure Frame where
  ident      : CanId
  kind       : FrameKind
  lengthCode : BitVec 4
  data       : List Byte
  deriving DecidableEq, Repr

/-- The five steps of an image write (R174), in their order. -/
inductive StoreStep where
  | eraseSignature | clearCodes | writeTables | setCodes | writeSignature
  deriving DecidableEq, Repr

/-- One constructor for each row of spec/opcode_table.json. -/
inductive Instr where
  -- start
  | powerOn
  | resetPin
  | initEnd
  -- ports
  | frameReception (port : PortId) (frame : Frame)
  | rxError (port : PortId)
  | transmitAttempt (port : PortId)
  | arbitrationLost (port : PortId)
  | transmitComplete (port : PortId)
  | transmitError (port : PortId)
  | busOffHoldExpiry (port : PortId)
  -- classifier, binder, sample store
  | frameClassify
  | binderRun
  | stalenessExpiry (slot : Fin 96)
  -- zone regulator
  | vehicleModeNotice
  | zoneStep (zone : Fin 8)
  | storageHoldExpiry (zone : Fin 8)
  -- door draft unit
  | doorPeriod (door : Fin 6)
  | doorOpenNotice (door : Fin 6)
  | releaseNotice (door : Fin 6)
  | openTimerExpiry (door : Fin 6)
  | runOnExpiry (door : Fin 6)
  | signalLostExpiry (door : Fin 6)
  | doorClimateNotice
  -- screen unit
  | screenEvaluation (channel : Fin 2)
  | screenClimateNotice
  -- supply and budget unit
  | lineWriteNotice
  | lineLeaveNotice
  | poleChangeNotice
  | resumeDelayExpiry
  | longBreakExpiry
  | budgetTimerExpiry
  -- output composer
  | publicationTake
  | composerClimateNotice
  | framePeriodExpiry (entry : Fin 24)
  | spacingExpiry (entry : Fin 24)
  -- override stack
  | push
  | pop
  | remove
  | clear
  | deskReject
  | lifetimeExpiry (preset : Fin 8)
  | stackClimateNotice
  -- management unit
  | readRecord
  | readState
  | loadBegin
  | loadData
  | loadTimerExpiry
  | abortLoad
  | activate
  | store
  | storeWriteEnd (failed : Option StoreStep)
  | storeTimeout
  | forceOutput
  | releaseOutput
  | setFramePeriod
  | clearCounters
  | clearEvents
  | reportEnable
  | reportDisable
  | resume
  | reset
  | unknownRequest
  | switchTimerExpiry
  deriving DecidableEq, Repr

end Sys2Proof
end

