-- ==== Sys2Proof/WellFormed.lean ====
section
/-! DEFINITION. Which commands are well-formed. Every index is bounded by its type; what is left to check is that a
frame carries as many data bytes as its length code and kind say (1.1). -/

namespace Sys2Proof

/-- The data length a frame of this kind and length code has (1.1): the length code but at most 8 for DATA, 0 for REMOTE. -/
def Frame.dataLength (kind : FrameKind) (lengthCode : BitVec 4) : Nat :=
  match kind with
  | .data => min lengthCode.toNat 8
  | .remote => 0

/-- A frame of the bus carries exactly its data length of bytes. -/
def Frame.wellFormed (f : Frame) : Bool :=
  f.data.length == Frame.dataLength f.kind f.lengthCode

/-- A command is well-formed when the frame it brings, if any, is. -/
def Instr.wellFormed : Instr → Bool
  | .frameReception _ f => f.wellFormed
  | _ => true

end Sys2Proof
end

