-- ==== Sys2Proof/Decode.lean ====
section
/-! DEFINITION. The part has no instruction words: no row of spec/opcode_table.json gives bits, so no word spells a
command. (The request frames of chapter 11 are data of the management unit's queue and are read by the commands that
take them, in Machine/Management.lean.) -/

namespace Sys2Proof

/-- The command a word spells by the table's bits. No row of the table gives bits, so no word spells one. -/
def decodeTableWord (_nbits _w : Nat) : Option Instr := none

end Sys2Proof
end

