-- ==== Sys2Proof/Config.lean ====
section
/-! DEFINITION. What is fixed for every part (1.1.1, 10.1, R63, R103, R130 …), and the free values: constants without a
body that stand for what the spec leaves open. Nothing can be proved of a free value, so a statement holds for every one. -/

namespace Sys2Proof.Config

/-- Receive FIFO capacity (1.1.1). -/
def rxCapacity : Nat := 32
/-- URGENT queue capacity (1.1.1). -/
def urgentCapacity : Nat := 8
/-- CONTROL and BULK queue capacity (1.1.1). -/
def otherCapacity : Nat := 16
/-- Transmit error increment (1.1.1). -/
def txErrorIncrement : Nat := 8
/-- PASSIVE threshold (1.1.1). -/
def passiveThreshold : Nat := 128
/-- Transmit error count limit, the bus-off condition (1.1.1). -/
def txErrorLimit : Nat := 256
/-- Bus-off hold time in ms (1.1.1). -/
def busOffHoldMs : Nat := 100
/-- Counter limit (1.1.1, 2.3). -/
def counterLimit : Nat := 65535
/-- Period of a zone's step timer in ms (R63). -/
def zoneStepMs : Nat := 1000
/-- Storage hold in ms (R70). -/
def storageHoldMs : Nat := 60000
/-- Door period in ms (R84). -/
def doorPeriodMs : Nat := 1000
/-- Screen evaluation period in ms (R103). -/
def screenEvalMs : Nat := 2000
/-- Budget period in ms (R130). -/
def budgetMs : Nat := 100
/-- Load timer in ms (R165). -/
def loadTimerMs : Nat := 500
/-- Time limit of an image write in ms (R174). -/
def storeLimitMs : Nat := 800
/-- Timer of a pending switch in ms (R171). -/
def switchMs : Nat := 100
/-- Depth of the override stack (9.1). -/
def stackDepth : Nat := 4
/-- One tick of the model's clock in ms: what a step on an empty command queue lets pass (DESIGN CHOICE, log 1). -/
def tickMs : Nat := 1

/-- FREE VALUE (log 5). What the image header's signature reads as while the image has no valid signature: some word
other than 5A3Ch, given as its place among those 65535 words. -/
opaque erasedSignature : Fin 65535

/-- FREE VALUE (log 6). The step an image write stood at when a time-out or a reset ended it, for the n-th free choice. -/
opaque reachedStep : Nat → Fin 5

/-- FREE VALUE (log 6). Whether, for the n-th free choice, the accept code of group g had been written when the write
ended within a step that writes accept codes. -/
opaque codeWritten : Nat → Nat → Bool

/-- FREE VALUE (log 7). Whether, for the n-th free choice, the two notices that one write sends to one watcher w go in
the opposite order to R49's table. -/
opaque noticesSwapped : Nat → Nat → Bool

/-- FREE VALUE (log 8). Whether a malformed request that meets a busy part is answered BAD_REQUEST rather than BUSY. -/
opaque malformedBeforeBusy : Bool

end Sys2Proof.Config
end

