-- ==== Sys2Proof/Machine/Tables.lean ====
section
/-! DEFINITION. The thirteen tables (11.3): live tables and stored image hold their records byte for byte as loaded
(R176); a record is a list of bytes, and Machine/Operands.lean says how each block reads one. -/

namespace Sys2Proof.Machine

/-- One table record: its bytes, in ascending byte number. -/
abbrev Rec := List Byte

/-- The thirteen tables of 11.3, in table number order. -/
inductive TableId where
  | frameHandling | classMap | bindings | slots | zones | outdoorCurve | doors | screens | depression | outputs
  | commandFrames | presets | globals
  deriving DecidableEq, Repr

/-- The table a table number names (11.3); none outside 1..13. -/
def TableId.ofNumber : Nat → Option TableId
  | 1 => some .frameHandling
  | 2 => some .classMap
  | 3 => some .bindings
  | 4 => some .slots
  | 5 => some .zones
  | 6 => some .outdoorCurve
  | 7 => some .doors
  | 8 => some .screens
  | 9 => some .depression
  | 10 => some .outputs
  | 11 => some .commandFrames
  | 12 => some .presets
  | 13 => some .globals
  | _ => none

/-- The table's number (11.3). -/
def TableId.number : TableId → Nat
  | .frameHandling => 1
  | .classMap => 2
  | .bindings => 3
  | .slots => 4
  | .zones => 5
  | .outdoorCurve => 6
  | .doors => 7
  | .screens => 8
  | .depression => 9
  | .outputs => 10
  | .commandFrames => 11
  | .presets => 12
  | .globals => 13

/-- Records of a table (11.3). -/
def TableId.count : TableId → Nat
  | .frameHandling => 128
  | .classMap => 1
  | .bindings => 192
  | .slots => 96
  | .zones => 8
  | .outdoorCurve => 1
  | .doors => 6
  | .screens => 2
  | .depression => 1
  | .outputs => 48
  | .commandFrames => 24
  | .presets => 8
  | .globals => 1

/-- Record size of a table in bytes (11.3). -/
def TableId.size : TableId → Nat
  | .frameHandling => 8
  | .classMap => 16
  | .bindings => 10
  | .slots => 12
  | .zones => 72
  | .outdoorCurve => 32
  | .doors => 16
  | .screens => 20
  | .depression => 22
  | .outputs => 12
  | .commandFrames => 32
  | .presets => 8
  | .globals => 48

/-- The seven groups of the image (10.6). -/
inductive Group where
  | g0 | g1 | g2 | g3 | g4 | g5 | g6
  deriving DecidableEq, Repr

/-- A group's number, the bit of the STORE mask and the place of its accept code. -/
def Group.number : Group → Nat
  | .g0 => 0
  | .g1 => 1
  | .g2 => 2
  | .g3 => 3
  | .g4 => 4
  | .g5 => 5
  | .g6 => 6

/-- The group a table is stored in (10.6). -/
def TableId.group : TableId → Group
  | .frameHandling | .classMap => .g0
  | .bindings | .slots => .g1
  | .zones | .outdoorCurve => .g2
  | .doors | .screens | .depression => .g3
  | .outputs | .commandFrames => .g4
  | .presets => .g5
  | .globals => .g6

/-- One set of the thirteen tables: the live tables, or the stored ones. -/
structure Tables where
  frameHandling : List Rec
  classMap      : List Rec
  bindings      : List Rec
  slots         : List Rec
  zones         : List Rec
  outdoorCurve  : List Rec
  doors         : List Rec
  screens       : List Rec
  depression    : List Rec
  outputs       : List Rec
  commandFrames : List Rec
  presets       : List Rec
  globals       : List Rec
  deriving DecidableEq, Repr

/-- The records of one table. -/
def Tables.get (t : Tables) : TableId → List Rec
  | .frameHandling => t.frameHandling
  | .classMap => t.classMap
  | .bindings => t.bindings
  | .slots => t.slots
  | .zones => t.zones
  | .outdoorCurve => t.outdoorCurve
  | .doors => t.doors
  | .screens => t.screens
  | .depression => t.depression
  | .outputs => t.outputs
  | .commandFrames => t.commandFrames
  | .presets => t.presets
  | .globals => t.globals

/-- The tables whose records of each table are what `f` gives for it. -/
def Tables.build (f : TableId → List Rec) : Tables :=
  { frameHandling := f .frameHandling, classMap := f .classMap, bindings := f .bindings, slots := f .slots,
    zones := f .zones, outdoorCurve := f .outdoorCurve, doors := f .doors, screens := f .screens,
    depression := f .depression, outputs := f .outputs, commandFrames := f .commandFrames, presets := f .presets,
    globals := f .globals }

/-- One table's records replaced, the others kept. -/
def Tables.set (t : Tables) (id : TableId) (recs : List Rec) : Tables :=
  Tables.build fun k => if k = id then recs else t.get k

/-- A two-byte field, LOW-FIRST (R176), of an unsigned or, in two's complement, a signed number. -/
def le16 (v : Int) : Rec :=
  let w := BitVec.ofInt 16 v
  [w.setWidth 8, (w >>> 8).setWidth 8]

/-- The built-in default record of each table (2.1.2, R33, R53, 4.1.1 to 4.1.3, 5.1.1, 6.1.1, 6.1.2, R152, 9.1.1, the
parameter tables of 2.1.3, 5.1.2 and 7.1.1). A field for which the spec lists no default is 0 (log 9). -/
def TableId.defaultRecord : TableId → Rec
  | .frameHandling => List.replicate 8 0
  | .classMap => [0, 0, 1, 1, 1, 1, 2, 2, 0, 0, 1, 1, 1, 1, 2, 2]
  | .bindings => [0, 0, 1, 0] ++ le16 1 ++ [0] ++ le16 0 ++ [0]
  | .slots => [6, 1] ++ le16 (-32768) ++ le16 32767 ++ le16 0 ++ le16 0 ++ [255, 0]
  | .zones =>
    let profile : Rec := le16 200 ++ [32, 8] ++ le16 8000 ++ [5, 1, 0, 0] ++ le16 200
    [0, 0, 0] ++ List.replicate 8 0 ++ [255, 255, 255] ++ le16 0 ++ le16 1000 ++ le16 0 ++ [0, 1, 2, 3]
      ++ profile ++ profile ++ profile ++ profile
  | .outdoorCurve =>
    le16 (-300) ++ le16 0 ++ le16 (-200) ++ le16 0 ++ le16 (-100) ++ le16 0 ++ le16 0 ++ le16 0
      ++ le16 100 ++ le16 0 ++ le16 200 ++ le16 0 ++ le16 300 ++ le16 0 ++ le16 400 ++ le16 0
  | .doors => [0, 0, 255, 0, 255, 255, 32, 64] ++ le16 30000 ++ [8] ++ le16 120 ++ [0, 0, 0]
  | .screens =>
    [0, 255, 255, 255, 255, 0] ++ le16 8 ++ le16 15 ++ le16 25 ++ le16 10 ++ le16 30 ++ [10, 0] ++ le16 600
  | .depression =>
    le16 250 ++ le16 250 ++ le16 210 ++ le16 160 ++ le16 125 ++ le16 95 ++ le16 75 ++ le16 55 ++ le16 35
      ++ le16 17 ++ le16 0
  | .outputs => [0, 2, 1, 0, 0, 0, 0, 0, 255, 0, 0, 0]
  | .commandFrames => [0x20, 0, 0, 0x08, 0] ++ le16 100 ++ [0] ++ List.replicate 24 0
  | .presets => List.replicate 8 0
  | .globals =>
    le16 0x5C0 ++ [255, 255, 255, 255, 255, 255, 255] ++ [1] ++ le16 400 ++ le16 450 ++ le16 500 ++ le16 5
      ++ le16 600 ++ le16 150 ++ le16 20 ++ le16 300 ++ le16 20 ++ le16 (-100) ++ le16 0 ++ le16 100 ++ le16 30
      ++ le16 50 ++ le16 30 ++ [0, 0, 3, 3] ++ [0, 0, 0, 0]

/-- All tables at their built-in defaults. -/
def Tables.defaults : Tables :=
  Tables.build fun k => List.replicate k.count k.defaultRecord

/-- The stored image (10.6): whether the header's signature reads 5A3Ch, the accept code of each group, and the groups'
stored tables. -/
structure Image where
  signed : Bool
  codes  : List (BitVec 2)
  stored : Tables
  deriving DecidableEq, Repr

/-- The image of a part that nothing has been stored into (DESIGN CHOICE, log 10). -/
def Image.blank : Image :=
  { signed := false, codes := List.replicate 7 0, stored := Tables.defaults }

/-- Whether a group of the image is loaded at start: a valid signature and accept code 01 (10.6, R175). -/
def Image.accepts (im : Image) (g : Group) : Bool :=
  im.signed && im.codes.getD g.number 0 == 1

/-- The tables a start loads (R175): each accepted group from the image, every other group at its defaults. -/
def Image.loaded (im : Image) : Tables :=
  Tables.build fun k => if im.accepts k.group then im.stored.get k else Tables.defaults.get k

end Sys2Proof.Machine
end

