-- ==== Sys2Proof/Machine/Operands.lean ====
section
/-! DEFINITION. How the bytes of records and requests are read (chapter 11), and the limits each block applies on
reading (R56, R83, R102, R116, R137, R145, R153): one view of a record for each kind of record. -/

namespace Sys2Proof.Machine

/-! ### Numbers -/

/-- The nearest number of lo..hi (2.3). -/
def clampNat (lo hi x : Nat) : Nat := max lo (min hi x)

/-- The nearest number of lo..hi (2.3). -/
def clampInt (lo hi x : Int) : Int := max lo (min hi x)

/-- Saturation to a signed 16-bit number. -/
def clamp16 (x : Int) : Int := clampInt (-32768) 32767 x

/-- Division rounding toward minus infinity (2.3); every divisor of the manual is positive, and then `Int.ediv` is the
floor. -/
def floorDiv (a : Int) (b : Int) : Int := a / b

/-- A 16-bit counter after n more (2.3). -/
def satAdd (c n : Nat) : Nat := min Config.counterLimit (c + n)

/-! ### Fields of a record (R176) -/

/-- Byte i of a record; 0 past its end. -/
def u8 (r : Rec) (i : Nat) : Nat := (r.getD i 0).toNat

/-- Byte i as a two's complement number. -/
def s8 (r : Rec) (i : Nat) : Int := (r.getD i 0).toInt

/-- The unsigned 16-bit field at bytes i, i + 1, LOW-FIRST. -/
def u16 (r : Rec) (i : Nat) : Nat := u8 r i + 256 * u8 r (i + 1)

/-- The signed 16-bit field at bytes i, i + 1, LOW-FIRST. -/
def s16 (r : Rec) (i : Nat) : Int := (BitVec.ofNat 16 (u16 r i)).toInt

/-- Bits lo..lo + n - 1 of byte i as a number. -/
def bits (r : Rec) (i lo n : Nat) : Nat := u8 r i / 2 ^ lo % 2 ^ n

/-- Bit k of byte i. -/
def bit (r : Rec) (i k : Nat) : Bool := bits r i k 1 == 1

/-- A slot field: FFh is absent, and any other value above 95 names no slot (R176 and the chapters' reading rules). -/
def slotField (r : Rec) (i : Nat) : Option Nat := if u8 r i < 96 then some (u8 r i) else none

/-- An output field: FFh is absent, and any other value above 47 names no output. -/
def outputField (r : Rec) (i : Nat) : Option Nat := if u8 r i < 48 then some (u8 r i) else none

/-- A valid field of a byte of its own: its range is 0..1, so a stored value above it is read as 1. -/
def validField (r : Rec) : Bool := u8 r 0 != 0

/-- Record i of one table; no bytes where there is none. -/
def record (t : Tables) (id : TableId) (i : Nat) : Rec := (t.get id).getD i []

/-! ### Frame handling entry, class map (2.1, 11.3.1, 11.3.2) -/

/-- Source port of an entry; `neither` is the coding that names none (R22). -/
inductive SourcePort where
  | bp | fp | either | neither
  deriving DecidableEq, Repr

/-- What the classifier does with a frame (R27 to R29). -/
inductive Disposition where
  | forward | drop | yield
  deriving DecidableEq, Repr

/-- A disposition coding; one that names none is DROP (R28). -/
def Disposition.ofCode : Nat → Disposition
  | 0 => .forward
  | 2 => .yield
  | _ => .drop

/-- A transmit class (1.3). -/
inductive TxClass where
  | urgent | control | bulk
  deriving DecidableEq, Repr

/-- A class coding; one that names none is BULK (R30, R145). -/
def TxClass.ofCode : Nat → TxClass
  | 0 => .urgent
  | 1 => .control
  | _ => .bulk

/-- A frame handling entry as the classifier reads it (2.1.1). -/
structure FrameEntry where
  valid         : Bool
  source        : SourcePort
  ident         : BitVec 11
  mask          : BitVec 11
  disposition   : Disposition
  consume       : Bool
  desk          : Bool
  urgency       : Nat
  minimumLength : Nat
  firstBinding  : Nat
  bindingCount  : Nat
  deriving DecidableEq, Repr

/-- The layout of 11.3.1. -/
def FrameEntry.ofRec (r : Rec) : FrameEntry :=
  { valid := bit r 0 0
    consume := bit r 0 1
    desk := bit r 0 2
    source := match bits r 0 3 2 with
      | 0 => .bp
      | 1 => .fp
      | 2 => .either
      | _ => .neither
    disposition := Disposition.ofCode (bits r 0 5 2)
    ident := BitVec.ofNat 11 (u16 r 1)
    mask := BitVec.ofNat 11 (u16 r 3)
    urgency := bits r 5 0 3
    minimumLength := bits r 5 3 4
    firstBinding := u8 r 6
    bindingCount := u8 r 7 }

/-- The class of an urgency code towards a destination port (R30, 11.3.2). -/
def classMapCell (t : Tables) (dest : PortId) (code : Nat) : TxClass :=
  let base := match dest with
    | .bp => 0
    | .fp => 8
  TxClass.ofCode (u8 (record t .classMap 0) (base + code))

/-! ### Bindings and slots (3.1.1, 3.1.2, 11.3.3, 11.3.4) -/

/-- A binding as the binder reads it. -/
structure Binding where
  slot      : Nat
  startBit  : Nat
  length    : Nat
  highFirst : Bool
  signed    : Bool
  scale     : Int
  shift     : Nat
  offset    : Int
  deriving DecidableEq, Repr

/-- The layout of 11.3.3. -/
def Binding.ofRec (r : Rec) : Binding :=
  { slot := u8 r 0
    startBit := u8 r 1
    length := u8 r 2
    highFirst := bit r 3 0
    signed := bit r 3 1
    scale := s16 r 4
    shift := min (u8 r 6) 15
    offset := s16 r 7 }

/-- What a slot measures (3.1.2). -/
inductive SlotKind where
  | temperature | humidity | power | voltage | speed | state | level
  deriving DecidableEq, Repr

/-- What readers get from a slot that is not FRESH (3.1.2). -/
inductive Policy where
  | hold | fallback | substitute
  deriving DecidableEq, Repr

/-- A slot record as the store reads it. -/
structure SlotCfg where
  kind       : SlotKind
  policy     : Policy
  min        : Int
  max        : Int
  timeout    : Nat
  fallback   : Int
  substitute : Option Nat
  deriving DecidableEq, Repr

/-- The layout of 11.3.4; a kind that names none is LEVEL (R41), a policy that names none FALLBACK (R45). -/
def SlotCfg.ofRec (r : Rec) : SlotCfg :=
  { kind := match u8 r 0 with
      | 0 => .temperature
      | 1 => .humidity
      | 2 => .power
      | 3 => .voltage
      | 4 => .speed
      | 5 => .state
      | _ => .level
    policy := match u8 r 1 with
      | 0 => .hold
      | 2 => .substitute
      | _ => .fallback
    min := s16 r 2
    max := s16 r 4
    timeout := u16 r 6
    fallback := s16 r 8
    substitute := slotField r 10 }

/-- The accepted range of a slot's kind (R41). -/
def SlotKind.range : SlotKind → Int × Int
  | .temperature => (-400, 850)
  | .humidity => (0, 1000)
  | .power => (0, 1500)
  | .voltage => (0, 1000)
  | .speed => (-32768, 32767)
  | .state => (-32768, 32767)
  | .level => (-32768, 32767)

/-- Whether a value is plausible for a slot (R41). -/
def SlotCfg.plausible (c : SlotCfg) (v : Int) : Bool :=
  decide (c.min ≤ v ∧ v ≤ c.max ∧ c.kind.range.1 ≤ v ∧ v ≤ c.kind.range.2)

/-! ### Outputs (8.1.1, 11.3.9) -/

/-- The kind of an output; `staged` carries its stage count (R137). -/
inductive OutputKind where
  | staged (n : Nat)
  | proportional
  | switched
  deriving DecidableEq, Repr

/-- An output's function. -/
inductive OutputFn where
  | heat | cool | blower | damper | curtainHeat | curtainFan | screenHeat
  deriving DecidableEq, Repr

/-- What an output's source field names. -/
inductive Source where
  | zone (z : Nat)
  | door (d : Nat)
  | screen (c : Nat)
  deriving DecidableEq, Repr

/-- An output record as the composer reads it (R137); `function` and `source` are none where the coding names none. -/
structure OutputCfg where
  valid     : Bool
  kind      : OutputKind
  function  : Option OutputFn
  source    : Option Source
  rated     : Nat
  faultSlot : Option Nat
  fillRank  : Nat
  deriving DecidableEq, Repr

/-- The function a coding names (11.3.9). -/
def OutputFn.ofCode : Nat → Option OutputFn
  | 0 => some .heat
  | 1 => some .cool
  | 2 => some .blower
  | 3 => some .damper
  | 4 => some .curtainHeat
  | 5 => some .curtainFan
  | 6 => some .screenHeat
  | _ => none

/-- The source a type and an index name (11.3.9); none beyond the list or the named table. -/
def Source.ofCode (type index : Nat) : Option Source :=
  match type with
  | 0 => if index < 8 then some (.zone index) else none
  | 1 => if index < 6 then some (.door index) else none
  | 2 => if index < 2 then some (.screen index) else none
  | _ => none

/-- The layout of 11.3.9 with the limits of R137, the rated power within 0..600 and not yet taken as 0 for a damper. -/
def OutputCfg.ofRec (r : Rec) : OutputCfg :=
  { valid := validField r
    kind := match u8 r 1 with
      | 0 => .staged (clampNat 1 7 (u8 r 2))
      | 1 => .proportional
      | _ => .switched
    function := OutputFn.ofCode (u8 r 3)
    source := Source.ofCode (u8 r 4) (u8 r 5)
    rated := min (u16 r 6) 600
    faultSlot := slotField r 8
    fillRank := min (u8 r 9) 15 }

/-- Output k's record as R76 and R97 read it. -/
def outputCfg (t : Tables) (k : Nat) : OutputCfg := OutputCfg.ofRec (record t .outputs k)

/-- The rated power the composer reads: 0 for function DAMPER (R137). -/
def OutputCfg.composerRated (o : OutputCfg) : Nat := if o.function = some .damper then 0 else o.rated

/-- Power of a value of a kind at a rated power (8.1.1, R97). -/
def OutputKind.power (kind : OutputKind) (rated v : Nat) : Nat :=
  match kind with
  | .staged n => rated * v / n
  | .proportional => rated * v / 1000
  | .switched => if v = 0 then 0 else rated

/-- Power of an output's value as the composer reads the output (8.1.1). -/
def OutputCfg.power (o : OutputCfg) (v : Nat) : Nat := o.kind.power o.composerRated v

/-- The greatest value of a kind: n, 1000 or on (8.1.1). -/
def OutputKind.full : OutputKind → Nat
  | .staged n => n
  | .proportional => 1000
  | .switched => 1

/-- HEAT, COOL, CURTAIN_HEAT and SCREEN_HEAT are the conditioning functions (8.1.1). -/
def OutputCfg.conditioning (o : OutputCfg) : Bool :=
  match o.function with
  | some .heat | some .cool | some .curtainHeat | some .screenHeat => true
  | _ => false

/-- An output field of a zone, door or screen record read as absent when it names no valid output (R56, R83). -/
def validOutputField (t : Tables) (r : Rec) (i : Nat) : Option Nat :=
  match outputField r i with
  | some k => if (outputCfg t k).valid then some k else none
  | none => none

/-! ### Zones and outdoor curve (4.1, 11.3.5, 11.3.6, R56) -/

/-- CAB or SALOON. -/
inductive ZoneClass where
  | saloon | cab
  deriving DecidableEq, Repr

/-- FRONT, JOINT or REAR. -/
inductive Section where
  | front | joint | rear
  deriving DecidableEq, Repr

/-- A profile block as the regulator reads it (4.1.2). -/
structure Profile where
  base          : Int
  kp            : Int
  ki            : Int
  integralLimit : Int
  deadband      : Int
  heatEnable    : Bool
  coolEnable    : Bool
  curveGain     : Int
  storageBand   : Int
  freshAir      : Nat
  deriving DecidableEq, Repr

/-- A zone record's common part as the regulator reads it (4.1.1): `sensors` are (slot, weight) pairs, `profileMap` the
entries for PREPARE, SERVICE, LAYOVER, WASH. -/
structure ZoneCfg where
  valid          : Bool
  cls            : ZoneClass
  sect           : Section
  sensors        : List (Option Nat × Nat)
  knob           : Option Nat
  blowerOutput   : Option Nat
  damperOutput   : Option Nat
  blowerMin      : Nat
  blowerMax      : Nat
  fallbackDemand : Int
  profileMap     : List Nat
  deriving DecidableEq, Repr

/-- Zone z's common part (11.3.5 with the limits of R56). -/
def zoneCfg (t : Tables) (z : Nat) : ZoneCfg :=
  let r := record t .zones z
  { valid := validField r
    cls := if u8 r 1 = 1 then .cab else .saloon
    sect := match u8 r 2 with
      | 1 => .joint
      | 2 => .rear
      | _ => .front
    sensors := [(slotField r 3, min (u8 r 4) 15), (slotField r 5, min (u8 r 6) 15),
      (slotField r 7, min (u8 r 8) 15), (slotField r 9, min (u8 r 10) 15)]
    knob := slotField r 11
    blowerOutput := validOutputField t r 12
    damperOutput := validOutputField t r 13
    blowerMin := min (u16 r 14) 1000
    blowerMax := min (u16 r 16) 1000
    fallbackDemand := clampInt (-1000) 1000 (s16 r 18)
    profileMap := [min (u8 r 20) 3, min (u8 r 21) 3, min (u8 r 22) 3, min (u8 r 23) 3] }

/-- Profile block p of zone z (11.3.5 with the limits of R56). -/
def profileCfg (t : Tables) (z p : Nat) : Profile :=
  let r := (record t .zones z).drop (24 + 12 * p)
  { base := clampInt 50 300 (u16 r 0)
    kp := u8 r 2
    ki := u8 r 3
    integralLimit := clampInt 0 32000 (u16 r 4)
    deadband := clampInt 0 20 (u8 r 6)
    heatEnable := bit r 7 0
    coolEnable := bit r 7 1
    curveGain := clampInt 0 32 (u8 r 8)
    storageBand := clampInt 0 30 (u8 r 9)
    freshAir := min (u16 r 10) 1000 }

/-- x of point i of the outdoor curve. -/
def curveX (t : Tables) (i : Nat) : Int := s16 (record t .outdoorCurve 0) (4 * i)

/-- y of point i of the outdoor curve, within -50..50 (R56). -/
def curveY (t : Tables) (i : Nat) : Int := clampInt (-50) 50 (s16 (record t .outdoorCurve 0) (4 * i + 2))

/-! ### Doors (5.1.1, 11.3.7, R83) -/

/-- A door record as the door draft unit reads it. -/
structure DoorCfg where
  valid         : Bool
  openSlot      : Option Nat
  releaseSlot   : Option Nat
  primaryZone   : Nat
  curtainHeat   : Option Nat
  curtainFan    : Option Nat
  openFactor    : Int
  paybackGain   : Nat
  debtLimit     : Nat
  runOnTime     : Nat
  layoverTime   : Nat
  deriving DecidableEq, Repr

/-- Door d's record (11.3.7 with the limits of R83). -/
def doorCfg (t : Tables) (d : Nat) : DoorCfg :=
  let r := record t .doors d
  { valid := validField r
    openSlot := slotField r 1
    releaseSlot := slotField r 2
    primaryZone := min (u8 r 3) 7
    curtainHeat := validOutputField t r 4
    curtainFan := validOutputField t r 5
    openFactor := u8 r 6
    paybackGain := u8 r 7
    debtLimit := min (u16 r 8) 60000
    runOnTime := clampNat 1 60 (u8 r 10)
    layoverTime := clampNat 30 600 (u16 r 11) }

/-! ### Screens and depression (6.1, 11.3.6, 11.3.8, R102) -/

/-- A screen record as the screen unit reads it; `heater` is none unless it names a valid SCREEN_HEAT output whose source
is this channel. -/
structure ScreenCfg where
  valid       : Bool
  glass       : Option Nat
  air         : Option Nat
  humidity    : Option Nat
  heater      : Option Nat
  levelPower  : List Nat
  fog         : Int
  marginal    : Int
  hysteresis  : Int
  blowerFloor : Nat
  deriving DecidableEq, Repr

/-- The heater output of channel c as R102 reads it. -/
def screenHeaterField (t : Tables) (c : Nat) (r : Rec) : Option Nat :=
  match validOutputField t r 4 with
  | some k =>
    if (outputCfg t k).function = some .screenHeat ∧ (outputCfg t k).source = some (.screen c) then some k else none
  | none => none

/-- Channel c's record (11.3.8 with the limits of R102); `levelPower` are the powers of levels 1 to 3. -/
def screenCfg (t : Tables) (c : Nat) : ScreenCfg :=
  let r := record t .screens c
  let fog : Int := clampInt 0 200 (u16 r 12)
  { valid := validField r
    glass := slotField r 1
    air := slotField r 2
    humidity := slotField r 3
    heater := screenHeaterField t c r
    levelPower := [min (u16 r 6) 300, min (u16 r 8) 300, min (u16 r 10) 300]
    fog := fog
    marginal := max fog (clampInt 0 300 (u16 r 14))
    hysteresis := clampInt 0 100 (u8 r 16)
    blowerFloor := min (u16 r 18) 1000 }

/-- Point i of the depression table, within 0..500 (R102). -/
def depressionPoint (t : Tables) (i : Nat) : Int := clampInt 0 500 (u16 (record t .depression 0) (2 * i))

/-! ### Command frames (8.4.1, 8.4.2, 11.3.10, R145) -/

/-- Where a placement's value comes from; `nothing` is the coding that names none and reads 0 (11.3.10). -/
inductive PlacementKind where
  | output | slot | status | nothing
  deriving DecidableEq, Repr

/-- A placement as the composer reads it. -/
structure Placement where
  kind      : PlacementKind
  index     : Nat
  startByte : Nat
  wide      : Bool
  highFirst : Bool
  shift     : Nat
  deriving DecidableEq, Repr

/-- The placement layout of 11.3.10. -/
def Placement.ofRec (r : Rec) : Placement :=
  { kind := match bits r 0 0 2 with
      | 0 => .output
      | 1 => .slot
      | 2 => .status
      | _ => .nothing
    startByte := bits r 0 2 3
    wide := bit r 0 5
    highFirst := bit r 0 6
    index := u8 r 1
    shift := bits r 2 0 3 }

/-- A command frame record as the composer reads it (R145); period and spacing in 10 ms units. -/
structure FrameCfg where
  valid        : Bool
  sendOnChange : Bool
  yields       : Bool
  port         : PortId
  cls          : TxClass
  ident        : BitVec 11
  length       : Nat
  fillByte     : Byte
  period       : Nat
  spacing      : Nat
  placements   : List Placement
  deriving DecidableEq, Repr

/-- Entry n's record (11.3.10 with the limits of R145). -/
def frameCfg (t : Tables) (n : Nat) : FrameCfg :=
  let r := record t .commandFrames n
  { valid := bit r 0 0
    sendOnChange := bit r 0 1
    yields := bit r 0 2
    port := if bits r 0 3 2 = 1 then .bp else .fp
    cls := TxClass.ofCode (bits r 0 5 2)
    ident := BitVec.ofNat 11 (u16 r 1)
    length := clampNat 1 8 (bits r 3 0 4)
    fillByte := r.getD 4 0
    period := clampNat 1 1000 (u16 r 5)
    spacing := min (u8 r 7) 100
    placements := (List.range (min (bits r 3 4 4) 8)).map fun k => Placement.ofRec (r.drop (8 + 3 * k)) }

/-! ### Presets (9.1.1, 11.3.11, R153) -/

/-- Override mode of a zone. -/
inductive OverrideMode where
  | normal | ventOnly | off
  deriving DecidableEq, Repr

/-- A mode coding; one that names none is NORMAL (R73, R153). -/
def OverrideMode.ofCode : Nat → OverrideMode
  | 1 => .ventOnly
  | 2 => .off
  | _ => .normal

/-- Recirculation of the dampers. -/
inductive Recirculation where
  | auto | fresh | recirc
  deriving DecidableEq, Repr

/-- A recirculation coding; one that names none is AUTO (R75, R153). -/
def Recirculation.ofCode : Nat → Recirculation
  | 1 => .fresh
  | 2 => .recirc
  | _ => .auto

/-- A preset record as the override stack reads it; lifetime in s. -/
structure Preset where
  valid          : Bool
  lifetime       : Nat
  screenFloor    : Nat
  cabOffset      : Int
  saloonOffset   : Int
  cabMode        : OverrideMode
  saloonMode     : OverrideMode
  recirculation  : Recirculation
  curtainInhibit : Bool
  blowerFloor    : Nat
  deriving DecidableEq, Repr

/-- Preset p's record (11.3.11 with the limits of R153). -/
def presetCfg (t : Tables) (p : Nat) : Preset :=
  let r := record t .presets p
  { lifetime := min (u16 r 0 % 2 ^ 13) 3600
    valid := bit r 1 5
    curtainInhibit := bit r 1 6
    screenFloor := min (bits r 2 0 3) 3
    cabMode := OverrideMode.ofCode (bits r 2 3 2)
    saloonMode := OverrideMode.ofCode (bits r 2 5 2)
    cabOffset := clampInt (-30) 30 (s8 r 3)
    saloonOffset := clampInt (-30) 30 (s8 r 4)
    recirculation := Recirculation.ofCode (bits r 5 0 2)
    blowerFloor := min (u16 r 6) 1000 }

/-! ### Global parameters (2.1.3, 5.1.2, 7.1.1, 11.3.12, R83, R116) -/

/-- The global parameter record as the blocks read it; times in the units of the tables. -/
structure Globals where
  managementBase : Nat
  outdoorSlot    : Option Nat
  speedSlot      : Option Nat
  modeSlot       : Option Nat
  lineSlot       : Option Nat
  poleSlot       : Option Nat
  auxSlot        : Option Nat
  regenSlot      : Option Nat
  autoResume     : Bool
  breakLevel     : Int
  resumeLevel    : Int
  resumeDelay    : Nat
  longBreakTime  : Nat
  lineCeiling    : Nat
  offWireCeiling : Nat
  breakAllowance : Nat
  regenCap       : Nat
  rampStep       : Nat
  curtain1       : Int
  curtain2       : Int
  curtain3       : Int
  stagePower     : Nat
  preOpenSpeed   : Int
  signalLostTime : Nat
  dispositionBp  : Disposition
  dispositionFp  : Disposition
  urgencyBp      : Nat
  urgencyFp      : Nat
  deriving DecidableEq, Repr

/-- The layout of 11.3.12 with the limits of R83 and R116 (a resume threshold below the break threshold is taken as equal
to it) and of 11.3.12 (a default urgency above 7 is used as 7). -/
def globals (t : Tables) : Globals :=
  let r := record t .globals 0
  let breakLevel : Int := clampInt 0 1000 (u16 r 10)
  { managementBase := u16 r 0
    outdoorSlot := slotField r 2
    speedSlot := slotField r 3
    modeSlot := slotField r 4
    lineSlot := slotField r 5
    poleSlot := slotField r 6
    auxSlot := slotField r 7
    regenSlot := slotField r 8
    autoResume := u8 r 9 != 0
    breakLevel := breakLevel
    resumeLevel := max breakLevel (clampInt 0 1000 (u16 r 12))
    resumeDelay := clampNat 100 5000 (u16 r 14)
    longBreakTime := clampNat 1 60 (u16 r 16)
    lineCeiling := min (u16 r 18) 1500
    offWireCeiling := min (u16 r 20) 1500
    breakAllowance := min (u16 r 22) 1500
    regenCap := min (u16 r 24) 1500
    rampStep := clampNat 1 200 (u16 r 26)
    curtain1 := clampInt (-400) 850 (s16 r 28)
    curtain2 := clampInt (-400) 850 (s16 r 30)
    curtain3 := clampInt (-400) 850 (s16 r 32)
    stagePower := min (u16 r 34) 200
    preOpenSpeed := clampInt 0 1000 (u16 r 36)
    signalLostTime := clampNat 1 600 (u16 r 38)
    dispositionBp := Disposition.ofCode (u8 r 40)
    dispositionFp := Disposition.ofCode (u8 r 41)
    urgencyBp := min (u8 r 42) 7
    urgencyFp := min (u8 r 43) 7 }

end Sys2Proof.Machine
end

