-- ==== Sys2Proof/Machine/State.lean ====
section
/-! DEFINITION. The state of the part: every block's state as chapters 1 to 10 list it, what each block has been sent and
has not yet taken, the live tables and the image, the model's clock, and the queue of waiting commands. Plain data. -/

namespace Sys2Proof.Machine

/-- Why a step can stop with a fault: the spec stops the part nowhere, so there is no such reason. -/
inductive Fault where
  deriving DecidableEq, Repr

/-- Why a step is refused. -/
inductive Refusal where
  /-- Raised by `exec` for a command that has no meaning yet. Safe: the model stops. -/
  | notModelled (mnemonic : String)
  /-- Raised by FRAME_RECEPTION on a frame whose number of data bytes does not fit its kind and length code (1.1): no bus
  carries such a frame. Safe: the model stops. -/
  | illFormedFrame
  deriving DecidableEq, Repr

/-- A timer: none when stopped, else the model's time in ms at which it expires. -/
abbrev Timer := Option Nat

/-! ### Ports (1.1) -/

/-- Port error state (1.4). -/
inductive ErrorState where
  | active | passive | busOff
  deriving DecidableEq, Repr

/-- Origin of a queued frame (1.1). A reply is marked when a pending switch waits for its completion (R171; log 4). -/
inductive Origin where
  | forwarded
  | reply (carriesSwitch : Bool)
  | eventReport
  | commandFrame (entry : Nat)
  deriving DecidableEq, Repr

/-- A frame waiting in a transmit queue. -/
structure QueuedFrame where
  frame  : Frame
  origin : Origin
  deriving DecidableEq, Repr

/-- The frame on offer (R7): the queue whose head it is, and the content the attempt under way carries. -/
structure Offer where
  cls     : TxClass
  carried : QueuedFrame
  deriving DecidableEq, Repr

/-- The nine counters of a port (1.5). -/
structure Counters where
  rxAccepted     : Nat := 0
  overrun        : Nat := 0
  rxError        : Nat := 0
  lengthShort    : Nat := 0
  txSent         : Nat := 0
  txError        : Nat := 0
  txDrop         : Nat := 0
  flushed        : Nat := 0
  busOffEpisodes : Nat := 0
  deriving DecidableEq, Repr

/-- One port (1.1); the defaults are the start values of R15. -/
structure Port where
  rx       : List Frame := []
  urgent   : List QueuedFrame := []
  control  : List QueuedFrame := []
  bulk     : List QueuedFrame := []
  err      : ErrorState := .active
  tec      : Nat := 0
  hold     : Timer := none
  offer    : Option Offer := none
  counters : Counters := {}
  deriving DecidableEq, Repr

/-! ### Classifier and binder (2.1, R25) -/

/-- The classifier's working state (2.1). -/
structure Classifier where
  lastServed : PortId := .fp
  mb         : BitVec 11 := 0x5C0
  deriving DecidableEq, Repr

/-- A hand-off to the signal binder (R25): data bytes, arrival port, run. -/
structure HandOff where
  data  : List Byte
  port  : PortId
  first : Nat
  count : Nat
  deriving DecidableEq, Repr

/-! ### Sample store (3.1.3) -/

/-- A slot's condition. -/
inductive SlotState where
  | never | fresh | stale | implausible
  deriving DecidableEq, Repr

/-- Quality of a reading (3.4). -/
inductive Quality where
  | good | degraded | none
  deriving DecidableEq, Repr

/-- Live state of one slot (3.1.3); the defaults are the start values of R53. -/
structure SlotLive where
  state       : SlotState := .never
  lastWritten : Option Int := none
  lastGood    : Option Int := none
  timer       : Timer := none
  reference   : Option Int := none
  implausible : Nat := 0
  deriving DecidableEq, Repr

/-! ### Zone regulator (4.1) -/

/-- The climate state. -/
inductive Climate where
  | standby | active
  deriving DecidableEq, Repr

/-- The vehicle mode in force (R57). -/
inductive VehicleMode where
  | parked | prepare | service | layover | wash
  deriving DecidableEq, Repr

/-- A change notice of the vehicle mode slot (R49). -/
structure ModeNotice where
  slot   : Nat
  value  : Int
  change : Bool
  deriving DecidableEq, Repr

/-- What a zone is doing (4.1.4). -/
inductive ZoneCondition where
  | idle | regulating | fallback
  deriving DecidableEq, Repr

/-- Live state of one zone (4.1.4); the defaults are the start values of R82. `unpublished` is the model's own: the zone's
record was activated and the composer has taken no publication since, so that R100 lets a door read no request and no
grant of it (log 29). -/
structure ZoneLive where
  condition      : ZoneCondition := .idle
  profile        : Nat := 0
  setpoint       : Int := 0
  temp           : Int := 0
  tier           : Quality := .none
  mode           : OverrideMode := .normal
  integral       : Int := 0
  rawDemand      : Int := 0
  demand         : Int := 0
  blower         : Nat := 0
  damper         : Nat := 0
  request        : Nat := 0
  storageRequest : Nat := 0
  hold           : Timer := none
  step           : Timer := none
  unpublished    : Bool := false
  deriving DecidableEq, Repr

/-- The zone regulator: climate state, vehicle mode in force, live zones, and the notices it has not yet taken. -/
structure Regulator where
  climate : Climate := .standby
  mode    : VehicleMode := .parked
  zones   : List ZoneLive := List.replicate 8 {}
  notices : List ModeNotice := []
  deriving DecidableEq, Repr

/-! ### Door draft unit (5.1.3) -/

/-- A door's state. -/
inductive DoorState where
  | idle | ready | opened | runOn | layover | fault
  deriving DecidableEq, Repr

/-- Fan level of a curtain. -/
inductive FanLevel where
  | off | low | on
  deriving DecidableEq, Repr

/-- A notice sent to one door (R49): a write of its door-open slot or a change of its release slot. -/
inductive DoorNotice where
  | doorOpen (slot : Nat) (value : Int) (change : Bool)
  | release (slot : Nat) (value : Int)
  deriving DecidableEq, Repr

/-- Live state of one door (5.1.3), the defaults the start values of R101, and the notices it has not yet taken.
`ownStage` is the model's own: the curtain stage of the last evaluation as it was without the curtain inhibit, which R92
lets the held stage take (log 12). -/
structure DoorLive where
  state      : DoorState := .idle
  stage      : Nat := 0
  ownStage   : Nat := 0
  heldStage  : Nat := 0
  fan        : FanLevel := .off
  debt       : Nat := 0
  ff         : Nat := 0
  request    : Nat := 0
  period     : Timer := none
  openTimer  : Timer := none
  runOn      : Timer := none
  signalLost : Timer := none
  notices    : List DoorNotice := []
  deriving DecidableEq, Repr

/-- The door draft unit: the climate state it last took notice of (log 3), the climate notices not yet taken, the doors. -/
structure DoorUnit where
  climate        : Climate := .standby
  climateNotices : List Climate := []
  doors          : List DoorLive := List.replicate 6 {}
  deriving DecidableEq, Repr

/-! ### Screen unit (6.1.3) -/

/-- What a pane is doing. -/
inductive ScreenCondition where
  | clear | marginal | fogging | ice
  deriving DecidableEq, Repr

/-- How a pane's condition was decided. -/
inductive ScreenBasis where
  | margin | iceTest | glassLost | airLost
  deriving DecidableEq, Repr

/-- Live state of one screen channel (6.1.3); the defaults are the start values of R115. -/
structure ScreenLive where
  condition      : ScreenCondition := .clear
  basis          : ScreenBasis := .margin
  conditionLevel : Nat := 0
  effectiveLevel : Nat := 0
  depression     : Int := 0
  dewPoint       : Int := 0
  margin         : Int := 0
  request        : Nat := 0
  timer          : Timer := none
  deriving DecidableEq, Repr

/-- The screen unit: the climate state it last took notice of (log 3), the climate notices not yet taken, the channels. -/
structure ScreenUnit where
  climate        : Climate := .standby
  climateNotices : List Climate := []
  channels       : List ScreenLive := List.replicate 2 {}
  deriving DecidableEq, Repr

/-! ### Supply and budget unit (7.1) -/

/-- Supply state (7.2). -/
inductive SupplyState where
  | onLine | breaking | held | resuming | offWire
  deriving DecidableEq, Repr

/-- A notice to the supply unit (R49, R50). -/
inductive SupplyNotice where
  | lineWrite (slot : Nat) (value : Int) (change : Bool)
  | lineLeave (slot : Nat) (state : SlotState) (value : Int) (quality : Quality)
  | poleChange (slot : Nat) (value : Int)
  deriving DecidableEq, Repr

/-- The first short class of an allocation (R133). -/
inductive ShortClass where
  | none | f | p0 | p1 | p2 | p3
  deriving DecidableEq, Repr

/-- Request and grant of one source in one class. -/
structure Share where
  request : Nat := 0
  grant   : Nat := 0
  deriving DecidableEq, Repr

/-- A zone's part of a publication (R134); `cls` is P1 for CAB and P3 for SALOON. -/
structure ZoneShare where
  cls            : ZoneClass := .saloon
  request        : Nat := 0
  grant          : Nat := 0
  limited        : Bool := false
  storageRequest : Nat := 0
  storageGrant   : Nat := 0
  deriving DecidableEq, Repr

/-- A publication (R134); the defaults are the start values of R136 and R152, but for C_eff, which start sets. -/
structure Publication where
  supply     : SupplyState := .breaking
  ceiling    : Nat := 0
  shortClass : ShortClass := .none
  surplus    : Nat := 0
  outputs    : List Share := List.replicate 48 {}
  screens    : List Share := List.replicate 2 {}
  zones      : List ZoneShare := List.replicate 8 {}
  doors      : List Share := List.replicate 6 {}
  deriving DecidableEq, Repr

/-- The supply and budget unit (7.1) and the notices it has not yet taken; the defaults are the start values of R136, but
for target and C_eff, which start sets. -/
structure Supply where
  state       : SupplyState := .breaking
  lastLine    : Option Nat := none
  resumeDelay : Timer := none
  longBreak   : Timer := none
  target      : Nat := 0
  surplus     : Nat := 0
  ceiling     : Nat := 0
  budget      : Timer := none
  lastPub     : Publication := {}
  notices     : List SupplyNotice := []
  deriving DecidableEq, Repr

/-! ### Output composer (8.1) -/

/-- Live state of one output (8.1); the defaults are the start values of R152. -/
structure OutputLive where
  value    : Nat := 0
  forced   : Option Nat := none
  failed   : Bool := false
  fRequest : Nat := 0
  deriving DecidableEq, Repr

/-- Schedule of one command frame (8.4.3); periods in 10 ms units, `lastPut` a time of the model's clock. -/
structure Schedule where
  period        : Nat := 100
  pendingPeriod : Option Nat := none
  periodTimer   : Timer := none
  lastPut       : Option Nat := none
  spacing       : Timer := none
  lastSent      : Option (List Byte) := none
  deriving DecidableEq, Repr

/-- The output composer: the climate state it last took notice of (log 3), the notices and publications not yet taken, its
copy of the last publication, outputs and frame schedules. -/
structure Composer where
  climate        : Climate := .standby
  climateNotices : List Climate := []
  publications   : List Publication := []
  copy           : Publication := {}
  outputs        : List OutputLive := List.replicate 48 {}
  schedules      : List Schedule := List.replicate 24 {}
  deriving DecidableEq, Repr

/-! ### Override stack (9.1) -/

/-- One entry of the override stack. -/
structure StackEntry where
  preset   : Nat
  lifetime : Timer
  deriving DecidableEq, Repr

/-- The override stack, top first; the climate state it last took notice of (log 3), the climate notices and the desk
hand-offs (data bytes) not yet taken. -/
structure Overrides where
  climate        : Climate := .standby
  climateNotices : List Climate := []
  entries        : List StackEntry := []
  handOffs       : List (List Byte) := []
  deriving DecidableEq, Repr

/-! ### Management unit (10.1) -/

/-- A captured frame (R20): a request or load data, with its data bytes. -/
inductive Captured where
  | request (data : List Byte)
  | loadData (data : List Byte)
  deriving DecidableEq, Repr

/-- Load state. -/
inductive LoadState where
  | empty | loading | complete | failed
  deriving DecidableEq, Repr

/-- Why a load failed. -/
inductive FailureCause where
  | none | sequence | timeout
  deriving DecidableEq, Repr

/-- The window of a load (R165). -/
structure LoadWindow where
  table : TableId
  first : Nat
  count : Nat
  deriving DecidableEq, Repr

/-- A running image write (R174): its group mask and the end of its 800 ms. -/
structure StoreRun where
  mask     : BitVec 7
  deadline : Timer
  deriving DecidableEq, Repr

/-- What a pending switch switches to (R171). -/
inductive SwitchKind where
  | reset | newMb
  deriving DecidableEq, Repr

/-- A pending switch, its 100 ms timer, and whether its reply was dropped or lost to a BUS_OFF of BP, so that the timer
decides (R171). -/
structure PendingSwitch where
  kind      : SwitchKind
  timer     : Timer
  replyLost : Bool
  deriving DecidableEq, Repr

/-- Start cause. -/
inductive StartCause where
  | power | command
  deriving DecidableEq, Repr

/-- The management unit (10.1) and the captured frames it has not yet taken; the defaults are the column "After start",
the flags as a start leaves them being set there. Bit n of `flags` and `enables` is the flag of bit n in 10.5. -/
structure Management where
  captured : List Captured := []
  load     : LoadState := .empty
  window   : Option LoadWindow := none
  buffer   : List Byte := []
  expected : Nat := 0
  timer    : Timer := none
  failure  : FailureCause := .none
  stray    : Nat := 0
  store    : Option StoreRun := none
  switch   : Option PendingSwitch := none
  flags    : BitVec 22 := 0
  enables  : BitVec 22 := 0x181011
  cause    : StartCause := .power
  deriving DecidableEq, Repr

/-! ### The whole part -/

/-- INIT, or running with the ports on the bus (R175, R16). -/
inductive Phase where
  | init | running
  deriving DecidableEq, Repr

/-- The state of the part. `now` (the model's clock in ms) and `freeIndex` (how many free choices have been made) are the
model's own; `pending` holds the waiting commands, first in, first out. -/
structure State where
  phase      : Phase
  now        : Nat
  freeIndex  : Nat
  tables     : Tables
  image      : Image
  bp         : Port
  fp         : Port
  classifier : Classifier
  binder     : List HandOff
  slots      : List SlotLive
  regulator  : Regulator
  doors      : DoorUnit
  screens    : ScreenUnit
  supply     : Supply
  composer   : Composer
  overrides  : Overrides
  mgmt       : Management
  pending    : List Instr
  deriving DecidableEq, Repr

/-- The event report that the start puts into BP URGENT (R175, R173): START and IMAGE_INVALID set, climate state STANDBY,
supply state BREAK, start cause POWER, on the default MB + 2. -/
def State.resetReport : QueuedFrame :=
  { frame := { ident := .standard 0x5C2, kind := .data, lengthCode := 8,
               data := [0x01, 0x00, 0x10, 0, 1, 0, 0, 0] }
    origin := .eventReport }

/-- The part right after power-on with nothing stored in its image (R15, R33, R53, R82, R101, R115, R136, R152, R161,
R175): in INIT, every table at its defaults, START and IMAGE_INVALID set and their report queued. -/
def State.reset : State :=
  { phase := .init
    now := 0
    freeIndex := 0
    tables := Tables.defaults
    image := Image.blank
    bp := { urgent := [State.resetReport] }
    fp := {}
    classifier := {}
    binder := []
    slots := List.replicate 96 {}
    regulator := {}
    doors := {}
    screens := {}
    supply := { target := 20, ceiling := 20, lastPub := { ceiling := 20 } }
    composer := { copy := { ceiling := 20 } }
    overrides := {}
    mgmt := { flags := 0x100001 }
    pending := [] }

end Sys2Proof.Machine
end

