-- ==== Sys2Proof/Machine/Ops.lean ====
section
/-! DEFINITION. The shared operations: replacing one block's part of the state, the clock and its timers, the transmit
queues (R5 to R7, R12), reading a slot (R45, R46), the effective override (R158) and the roles of the outputs (R137).
Every operation on the state is one record update whose cases stand inside the fields it changes, so that what it leaves
alone is plain from its form. -/

namespace Sys2Proof.Machine

/-- What a command answers. -/
abbrev Result := Host.Outcome State Fault Refusal

/-! ### Replacing one part of the state -/

def State.setPhase (s : State) (x : Phase) : State := { s with phase := x }
def State.setNow (s : State) (x : Nat) : State := { s with now := x }
def State.setFreeIndex (s : State) (x : Nat) : State := { s with freeIndex := x }
def State.setTables (s : State) (x : Tables) : State := { s with tables := x }
def State.setImage (s : State) (x : Image) : State := { s with image := x }
def State.setClassifier (s : State) (x : Classifier) : State := { s with classifier := x }
def State.setBinder (s : State) (x : List HandOff) : State := { s with binder := x }
def State.setSlots (s : State) (x : List SlotLive) : State := { s with slots := x }
def State.setRegulator (s : State) (x : Regulator) : State := { s with regulator := x }
def State.setDoors (s : State) (x : DoorUnit) : State := { s with doors := x }
def State.setScreens (s : State) (x : ScreenUnit) : State := { s with screens := x }
def State.setSupply (s : State) (x : Supply) : State := { s with supply := x }
def State.setComposer (s : State) (x : Composer) : State := { s with composer := x }
def State.setOverrides (s : State) (x : Overrides) : State := { s with overrides := x }
def State.setMgmt (s : State) (x : Management) : State := { s with mgmt := x }
def State.setPending (s : State) (x : List Instr) : State := { s with pending := x }

/-- One port of the part. -/
def State.port (s : State) : PortId → Port
  | .bp => s.bp
  | .fp => s.fp

/-- One port replaced. -/
def State.setPort (s : State) (p : PortId) (x : Port) : State :=
  { s with
    bp := match p with
      | .bp => x
      | .fp => s.bp
    fp := match p with
      | .bp => s.fp
      | .fp => x }

/-- Zone z's live state. -/
def State.zone (s : State) (z : Nat) : ZoneLive := s.regulator.zones.getD z {}

/-- Zone z's live state replaced. -/
def State.setZone (s : State) (z : Nat) (x : ZoneLive) : State :=
  s.setRegulator { s.regulator with zones := s.regulator.zones.set z x }

/-- Door d's live state. -/
def State.door (s : State) (d : Nat) : DoorLive := s.doors.doors.getD d {}

/-- Door d's live state replaced. -/
def State.setDoor (s : State) (d : Nat) (x : DoorLive) : State :=
  s.setDoors { s.doors with doors := s.doors.doors.set d x }

/-- Screen channel c's live state. -/
def State.screen (s : State) (c : Nat) : ScreenLive := s.screens.channels.getD c {}

/-- Screen channel c's live state replaced. -/
def State.setScreen (s : State) (c : Nat) (x : ScreenLive) : State :=
  s.setScreens { s.screens with channels := s.screens.channels.set c x }

/-- Slot i's live state. -/
def State.slot (s : State) (i : Nat) : SlotLive := s.slots.getD i {}

/-- Slot i's live state replaced. -/
def State.setSlot (s : State) (i : Nat) (x : SlotLive) : State := s.setSlots (s.slots.set i x)

/-- Output k's live state. -/
def State.output (s : State) (k : Nat) : OutputLive := s.composer.outputs.getD k {}

/-- Output k's live state replaced. -/
def State.setOutput (s : State) (k : Nat) (x : OutputLive) : State :=
  s.setComposer { s.composer with outputs := s.composer.outputs.set k x }

/-- Command frame n's schedule. -/
def State.schedule (s : State) (n : Nat) : Schedule := s.composer.schedules.getD n {}

/-- Command frame n's schedule replaced. -/
def State.setSchedule (s : State) (n : Nat) (x : Schedule) : State :=
  s.setComposer { s.composer with schedules := s.composer.schedules.set n x }

/-! ### The clock (log 1, log 2) -/

/-- Time has come to d at the least. -/
def State.advanceTo (s : State) (d : Nat) : State := s.setNow (max s.now d)

/-- ms milliseconds pass. -/
def State.elapse (s : State) (ms : Nat) : State := s.setNow (s.now + ms)

/-- A timer started at this moment with ms milliseconds. -/
def State.startTimer (s : State) (ms : Nat) : Timer := some (s.now + ms)

/-- The expiry of a timer as an event: time has come to its end and `k` says what happens. A stopped timer does not
expire, and then nothing happens (log 2). -/
def onExpiry (t : Timer) (k : State → State) (s : State) : Result :=
  match t with
  | none => .next s
  | some d => .next (k (s.advanceTo d))

/-- What is left of a timer, in ms; none when it is stopped. -/
def Timer.left (t : Timer) (now : Nat) : Option Nat :=
  match t with
  | none => none
  | some d => some (d - now)

/-! ### Transmit queues (R5, R6, R7, R12) -/

/-- How a put ended (R5, R6, R12). -/
inductive PutOutcome where
  | accepted | coalesced | dropped
  deriving DecidableEq, Repr

/-- The queue of a class. -/
def Port.queue (p : Port) : TxClass → List QueuedFrame
  | .urgent => p.urgent
  | .control => p.control
  | .bulk => p.bulk

/-- The queue of a class replaced. -/
def Port.setQueue (p : Port) (c : TxClass) (q : List QueuedFrame) : Port :=
  { p with
    urgent := match c with
      | .urgent => q
      | _ => p.urgent
    control := match c with
      | .control => q
      | _ => p.control
    bulk := match c with
      | .bulk => q
      | _ => p.bulk }

/-- Capacity of a queue (1.1.1). -/
def TxClass.capacity : TxClass → Nat
  | .urgent => Config.urgentCapacity
  | .control | .bulk => Config.otherCapacity

/-- Whether an arriving frame's origin coalesces with a queued frame of the same origin: command frames and event reports
do, forwarded frames and replies do not (R6). -/
def Origin.coalesces : Origin → Bool
  | .commandFrame _ | .eventReport => true
  | .forwarded | .reply _ => false

/-- How a put of a frame of origin o into a queue ends (R5, R6, R12). -/
def Port.outcome (p : Port) (c : TxClass) (o : Origin) : PutOutcome :=
  if p.err = .busOff then .dropped
  else if o.coalesces && (p.queue c).any (fun q => q.origin == o) then .coalesced
  else if (p.queue c).length < c.capacity then .accepted
  else .dropped

/-- A frame put into a queue: appended, replacing the unsent frame of its origin in place, or discarded with TX_DROP counted
(R5, R6, R12). A coalescing put replaces the whole frame, a command frame's identifier and length with its data bytes
(log 39). -/
def Port.put (p : Port) (c : TxClass) (x : QueuedFrame) : Port :=
  match p.outcome c x.origin with
  | .accepted => p.setQueue c (p.queue c ++ [x])
  | .coalesced => p.setQueue c ((p.queue c).map fun q => if q.origin = x.origin then x else q)
  | .dropped => { p with counters := { p.counters with txDrop := satAdd p.counters.txDrop 1 } }

/-- The frame the port would offer: the head of URGENT, else of CONTROL, else of BULK (R7). -/
def Port.choice (p : Port) : Option Offer :=
  match p.urgent, p.control, p.bulk with
  | x :: _, _, _ => some { cls := .urgent, carried := x }
  | [], x :: _, _ => some { cls := .control, carried := x }
  | [], [], x :: _ => some { cls := .bulk, carried := x }
  | [], [], [] => none

/-- The error state that a transmit error count stands for (R10, R11). -/
def ErrorState.ofCount (tec : Nat) : ErrorState :=
  if tec < Config.passiveThreshold then .active
  else if tec < Config.txErrorLimit then .passive
  else .busOff

/-- The port takes part in the traffic of its segment: the part is out of INIT and the port is not BUS_OFF (R12, R16). -/
def State.onBus (s : State) (p : PortId) : Bool :=
  s.phase == .running && (s.port p).err != .busOff

/-! ### Reading slots (R45 to R47) -/

/-- Slot i's record. -/
def slotCfg (t : Tables) (i : Nat) : SlotCfg := SlotCfg.ofRec (record t .slots i)

/-- A FRESH slot's value: its last good value, which is present. -/
def SlotLive.good (l : SlotLive) (c : SlotCfg) : Int := l.lastGood.getD c.fallback

/-- Effective value and quality of a slot (R45, R46); a field that names no slot reads 0 with NONE (R47). -/
def effective (t : Tables) (slots : List SlotLive) (i : Option Nat) : Int × Quality :=
  match i with
  | none => (0, .none)
  | some i =>
    let c := slotCfg t i
    let l := slots.getD i {}
    match l.state with
    | .never => (c.fallback, .none)
    | .fresh => (l.good c, .good)
    | .stale | .implausible =>
      match c.policy with
      | .hold =>
        match l.lastGood with
        | some v => (v, .degraded)
        | none => (c.fallback, .none)
      | .fallback => (c.fallback, .none)
      | .substitute =>
        match c.substitute with
        | none => (c.fallback, .none)
        | some j =>
          let m := slots.getD j {}
          if m.state = .fresh then (m.good (slotCfg t j), .degraded) else (c.fallback, .none)

/-- A slot as a block reads it now. -/
def State.read (s : State) (i : Option Nat) : Int × Quality := effective s.tables s.slots i

/-- Quality GOOD or DEGRADED. -/
def Quality.present (q : Quality) : Bool := q != .none

/-! ### The effective override (R158) -/

/-- What the override stack gives its readers. -/
structure Effective where
  cabOffset      : Int := 0
  saloonOffset   : Int := 0
  cabMode        : OverrideMode := .normal
  saloonMode     : OverrideMode := .normal
  recirculation  : Recirculation := .auto
  curtainInhibit : Bool := false
  blowerFloor    : Nat := 0
  screenFloor    : Nat := 0
  deriving DecidableEq, Repr

/-- The highest screen floor over the presets of all entries (R158). -/
def screenFloorOf (t : Tables) (entries : List StackEntry) : Nat :=
  entries.foldl (fun m e => max m (presetCfg t e.preset).screenFloor) 0

/-- The effective override: the top entry's preset, but the screen floor over the whole stack (R158). -/
def effectiveOverride (t : Tables) (entries : List StackEntry) : Effective :=
  match entries with
  | [] => {}
  | top :: rest =>
    let p := presetCfg t top.preset
    { cabOffset := p.cabOffset, saloonOffset := p.saloonOffset, cabMode := p.cabMode, saloonMode := p.saloonMode,
      recirculation := p.recirculation, curtainInhibit := p.curtainInhibit, blowerFloor := p.blowerFloor,
      screenFloor := screenFloorOf t (top :: rest) }

/-- The effective override as a block reads it now. -/
def State.override (s : State) : Effective := effectiveOverride s.tables s.overrides.entries

/-! ### Roles of the outputs (R137) -/

/-- The role an output is filled in. -/
inductive Role where
  | zoneBlower (z : Nat)
  | zoneDamper (z : Nat)
  | curtainFan (d : Nat)
  | curtainHeat (d : Nat)
  | screenHeater (c : Nat)
  | conditioning (z : Nat)
  deriving DecidableEq, Repr

/-- The first of 0..n - 1 that `named` holds of. -/
def firstNamed (n : Nat) (named : Nat → Bool) : Option Nat := (List.range n).find? named

/-- The named role of output k: the first in the order of R137's table, and within a role the record of lowest index. -/
def namedRole (t : Tables) (k : Nat) : Option Role :=
  match firstNamed 8 fun z => (zoneCfg t z).valid && (zoneCfg t z).blowerOutput == some k with
  | some z => some (.zoneBlower z)
  | none =>
  match firstNamed 8 fun z => (zoneCfg t z).valid && (zoneCfg t z).damperOutput == some k with
  | some z => some (.zoneDamper z)
  | none =>
  match firstNamed 6 fun d => (doorCfg t d).valid && (doorCfg t d).curtainFan == some k with
  | some d => some (.curtainFan d)
  | none =>
  match firstNamed 6 fun d => (doorCfg t d).valid && (doorCfg t d).curtainHeat == some k with
  | some d => some (.curtainHeat d)
  | none =>
  match firstNamed 2 fun c => (screenCfg t c).valid && (screenCfg t c).heater == some k with
  | some c => some (.screenHeater c)
  | none => none

/-- The role of output k (R137): none for an output that is not valid, or that no role takes. A named role holds whatever the
output's source field holds, also one that names no source (log 41). -/
def role (t : Tables) (k : Nat) : Option Role :=
  let o := outputCfg t k
  if o.valid then
    match namedRole t k with
    | some r => some r
    | none =>
      match o.function, o.source with
      | some .heat, some (.zone z) => some (.conditioning z)
      | some .cool, some (.zone z) => some (.conditioning z)
      | _, _ => none
  else none

/-- The output that holds a named role: the one its record names, if R137 leaves it to that record. -/
def holds (t : Tables) (named : Option Nat) (r : Role) : Option Nat :=
  match named with
  | some k => if role t k = some r then some k else none
  | none => none

/-- Zone z's blower output. -/
def zoneBlowerOutput (t : Tables) (z : Nat) : Option Nat := holds t (zoneCfg t z).blowerOutput (.zoneBlower z)

/-- Zone z's damper output. -/
def zoneDamperOutput (t : Tables) (z : Nat) : Option Nat := holds t (zoneCfg t z).damperOutput (.zoneDamper z)

/-- Door d's curtain fan output. -/
def curtainFanOutput (t : Tables) (d : Nat) : Option Nat := holds t (doorCfg t d).curtainFan (.curtainFan d)

/-- Door d's curtain heat output. -/
def curtainHeatOutput (t : Tables) (d : Nat) : Option Nat := holds t (doorCfg t d).curtainHeat (.curtainHeat d)

/-- Screen channel c's heater output. -/
def screenHeaterOutput (t : Tables) (c : Nat) : Option Nat := holds t (screenCfg t c).heater (.screenHeater c)

/-- The outputs of a function in the conditioning role of zone z, in ascending index. -/
def conditioningOutputs (t : Tables) (z : Nat) (fn : OutputFn) : List Nat :=
  (List.range 48).filter fun k => (outputCfg t k).function == some fn && role t k == some (.conditioning z)

/-- An output that is neither FAILED nor forced: it takes part in its source's sums and fill. -/
def usable (outs : List OutputLive) (k : Nat) : Bool :=
  let o := outs.getD k {}
  !o.failed && o.forced.isNone

/-- The line is absent or not yet taken up: BREAK or HELD. -/
def SupplyState.cut (x : SupplyState) : Bool := x == .breaking || x == .held

end Sys2Proof.Machine
end

