-- ==== Sys2Proof/Machine/Flags.lean ====
section
/-! DEFINITION. The event flags, the event reports they cause (10.5, R172, R173), and the puts of every block, since a
dropped put sets the TX_DROP flag (R6, R12). -/

namespace Sys2Proof.Machine

/-- The 22 event flags of 10.5. -/
inductive Flag where
  | start | bpOverrun | fpOverrun | txDrop | busOff | lengthShort | slotImplausible | slotStale | zoneFallback | doorFault
  | screenFog | supplyBreak | supplyHeld | longBreak | budgetShort | outputFault | overrideDiscard | deskReject | loadDone
  | loadFailed | imageInvalid | climateState
  deriving DecidableEq, Repr

/-- A flag's bit (10.5). -/
def Flag.bit : Flag → Nat
  | .start => 0
  | .bpOverrun => 1
  | .fpOverrun => 2
  | .txDrop => 3
  | .busOff => 4
  | .lengthShort => 5
  | .slotImplausible => 6
  | .slotStale => 7
  | .zoneFallback => 8
  | .doorFault => 9
  | .screenFog => 10
  | .supplyBreak => 11
  | .supplyHeld => 12
  | .longBreak => 13
  | .budgetShort => 14
  | .outputFault => 15
  | .overrideDiscard => 16
  | .deskReject => 17
  | .loadDone => 18
  | .loadFailed => 19
  | .imageInvalid => 20
  | .climateState => 21

/-- A flag's mask. -/
def Flag.mask (f : Flag) : BitVec 22 := 1#22 <<< f.bit

/-- Whether a flag is set in a word of flags or of enables. -/
def hasFlag (w : BitVec 22) (f : Flag) : Bool := w &&& f.mask != 0

/-- Climate state as a coded value (R146, R177, R179). -/
def Climate.code : Climate → Nat
  | .standby => 0
  | .active => 1

/-- Supply state as a coded value (R146, R177, R179). -/
def SupplyState.code : SupplyState → Nat
  | .onLine => 0
  | .breaking => 1
  | .held => 2
  | .resuming => 3
  | .offWire => 4

/-- Start cause as a coded value (R177, R179). -/
def StartCause.code : StartCause → Nat
  | .power => 0
  | .command => 1

/-- A frame the part composes: STANDARD DATA with a length code equal to its data length (1.1). -/
def composedFrame (ident : BitVec 11) (data : List Byte) : Frame :=
  { ident := .standard ident, kind := .data, lengthCode := BitVec.ofNat 4 data.length, data := data }

/-- The event report as the part stands, carrying the given flags (R173, R177). -/
def eventReport (s : State) (flags : BitVec 22) : QueuedFrame :=
  { frame := composedFrame (s.classifier.mb + 2)
      [flags.setWidth 8, (flags >>> 8).setWidth 8, (flags >>> 16).setWidth 8,
        BitVec.ofNat 8 s.regulator.climate.code, BitVec.ofNat 8 s.supply.state.code,
        BitVec.ofNat 8 s.mgmt.cause.code, 0, 0]
    origin := .eventReport }

/-- BP and the flags after one event report is put (R173). A dropped report sets TX_DROP (R6, R12), and TX_DROP newly set
and enabled has a report put in its turn, which is dropped as the first was. -/
def reportPut (s : State) (bp : Port) (flags : BitVec 22) : Port × BitVec 22 :=
  match bp.outcome .urgent .eventReport with
  | .accepted | .coalesced => (bp.put .urgent (eventReport s flags), flags)
  | .dropped =>
    let bp1 := bp.put .urgent (eventReport s flags)
    if hasFlag flags .txDrop then (bp1, flags)
    else if hasFlag s.mgmt.enables .txDrop then
      (bp1.put .urgent (eventReport s (flags ||| Flag.txDrop.mask)), flags ||| Flag.txDrop.mask)
    else (bp1, flags ||| Flag.txDrop.mask)

/-- BP and the flags after a flag is set when `c` holds (R172, R173): a flag already set is not newly set; one newly set
and enabled has an event report put. -/
def raised (c : Bool) (f : Flag) (s : State) : Port × BitVec 22 :=
  if c && !hasFlag s.mgmt.flags f then
    if hasFlag s.mgmt.enables f then reportPut s s.bp (s.mgmt.flags ||| f.mask)
    else (s.bp, s.mgmt.flags ||| f.mask)
  else (s.bp, s.mgmt.flags)

/-- A flag is set when `c` holds (R172, R173). -/
def raiseWhen (c : Bool) (f : Flag) (s : State) : State :=
  { s with bp := (raised c f s).1, mgmt := { s.mgmt with flags := (raised c f s).2 } }

/-- A flag is set (R172, R173). -/
def raise (f : Flag) (s : State) : State := raiseWhen true f s

/-- An event report is put when `c` holds, with no flag set for it (R173, REPORT ENABLE). -/
def reportWhen (c : Bool) (s : State) : State :=
  { s with
    bp := if c then (reportPut s s.bp s.mgmt.flags).1 else s.bp
    mgmt := { s.mgmt with flags := if c then (reportPut s s.bp s.mgmt.flags).2 else s.mgmt.flags } }

/-- How a put of a frame of origin o into a port ends now. -/
def State.putOutcome (s : State) (p : PortId) (c : TxClass) (o : Origin) : PutOutcome := (s.port p).outcome c o

/-- A block puts a frame into a queue of a port; a DROPPED put sets the TX_DROP flag (R5, R6, R12). -/
def putFrame (p : PortId) (c : TxClass) (x : QueuedFrame) (s : State) : State :=
  raiseWhen (s.putOutcome p c x.origin == .dropped) .txDrop (s.setPort p ((s.port p).put c x))

end Sys2Proof.Machine
end

