-- ==== Sys2Proof/Machine/Classifier.lean ====
section
/-! DEFINITION. The frame classifier (chapter 2): FRAME_CLASSIFY. -/

namespace Sys2Proof.Machine

/-- The port the classifier serves next (R17); none when both FIFOs are empty. -/
def classifyChoice (s : State) : Option PortId :=
  match s.bp.rx.isEmpty, s.fp.rx.isEmpty with
  | true, true => none
  | false, true => some .bp
  | true, false => some .fp
  | false, false => some s.classifier.lastServed.other

/-- Whether an entry matches a STANDARD DATA frame from a port (R22). -/
def FrameEntry.matchesFrame (e : FrameEntry) (p : PortId) (ident : BitVec 11) : Bool :=
  e.valid
    && (match e.source with
      | .bp => p == .bp
      | .fp => p == .fp
      | .either => true
      | .neither => false)
    && (ident &&& e.mask) == (e.ident &&& e.mask)

/-- The frame handling entry of index i. -/
def frameEntry (t : Tables) (i : Nat) : FrameEntry := FrameEntry.ofRec (record t .frameHandling i)

/-- The index of the first entry that matches (R22). -/
def lookup (t : Tables) (p : PortId) (ident : BitVec 11) : Option Nat :=
  (List.range 128).find? fun i => (frameEntry t i).matchesFrame p ident

/-- The arrival port's default disposition (R19, R23). -/
def defaultDisposition (t : Tables) : PortId → Disposition
  | .bp => (globals t).dispositionBp
  | .fp => (globals t).dispositionFp

/-- The arrival port's default urgency (R19, R23). -/
def defaultUrgency (t : Tables) : PortId → Nat
  | .bp => (globals t).urgencyBp
  | .fp => (globals t).urgencyFp

/-- A frame put into the other port's queue that the class map gives for its urgency code (R27, R30). -/
def forwardFrame (p : PortId) (f : Frame) (urgency : Nat) (s : State) : State :=
  putFrame p.other (classMapCell s.tables p.other urgency) { frame := f, origin := .forwarded } s

/-- The disposition stage (R27 to R29). -/
def dispose (p : PortId) (f : Frame) (d : Disposition) (urgency : Nat) (s : State) : State :=
  match d with
  | .forward => forwardFrame p f urgency s
  | .drop => s
  | .yield =>
    match s.regulator.climate with
    | .standby => forwardFrame p f urgency s
    | .active => s

/-- A port's LENGTH_SHORT counter rises by 1 and the LENGTH_SHORT flag is set (R24, R38). -/
def countLengthShort (p : PortId) (s : State) : State :=
  let port := s.port p
  raise .lengthShort
    (s.setPort p { port with counters := { port.counters with lengthShort := satAdd port.counters.lengthShort 1 } })

/-- The hand-offs of a frame that passed its entry's length check (R25, R26). -/
def handOff (p : PortId) (f : Frame) (e : FrameEntry) (s : State) : State :=
  { s with
    binder :=
      if e.consume && e.bindingCount != 0 then
        s.binder ++ [{ data := f.data, port := p, first := e.firstBinding, count := e.bindingCount }]
      else s.binder
    overrides := { s.overrides with
      handOffs := if e.desk then s.overrides.handOffs ++ [f.data] else s.overrides.handOffs } }

/-- A frame with an entry: length check, hand-offs, disposition (R24 to R29). -/
def classifyEntry (p : PortId) (f : Frame) (e : FrameEntry) (s : State) : State :=
  dispose p f e.disposition e.urgency
    (if e.minimumLength ≤ f.data.length then handOff p f e s else countLengthShort p s)

/-- A frame without an entry takes its port's defaults (R19, R23). -/
def classifyDefault (p : PortId) (f : Frame) (s : State) : State :=
  dispose p f (defaultDisposition s.tables p) (defaultUrgency s.tables p) s

/-- A captured frame is handed whole to the management unit (R20). -/
def capture (c : Captured) (s : State) : State :=
  s.setMgmt { s.mgmt with captured := s.mgmt.captured ++ [c] }

/-- One frame dealt with in the order of R18: format gate, capture, lookup, length check, hand-offs, disposition. -/
def classify (p : PortId) (f : Frame) (s : State) : State :=
  match f.ident, f.kind with
  | .standard ident, .data =>
    if p = .bp ∧ ident = s.classifier.mb then capture (.request f.data) s
    else if p = .bp ∧ ident = s.classifier.mb + 3 then capture (.loadData f.data) s
    else
      match lookup s.tables p ident with
      | some i => classifyEntry p f (frameEntry s.tables i) s
      | none => classifyDefault p f s
  | _, _ => classifyDefault p f s

/-- The head frame of a port's FIFO taken, and the port noted as last served (R3, R17). -/
def takeFrame (p : PortId) (rest : List Frame) (s : State) : State :=
  (s.setPort p { s.port p with rx := rest }).setClassifier { s.classifier with lastServed := p }

/-- FRAME_CLASSIFY (R17, R18). In INIT the classifier takes no frame. -/
def execFrameClassify (s : State) : Result :=
  match s.phase, classifyChoice s with
  | .running, some p =>
    match (s.port p).rx with
    | f :: rest => .next (classify p f (takeFrame p rest s))
    | [] => .next s
  | _, _ => .next s

end Sys2Proof.Machine
end

