-- ==== Sys2Proof/Machine/Binder.lean ====
section
/-! DEFINITION. The signal binder and the sample store (chapter 3): BINDER_RUN and STALENESS_EXPIRY. -/

namespace Sys2Proof.Machine

/-! ### Locating and forming a value (R36 to R40) -/

/-- The frame bit that follows a bit of a HIGH-FIRST field toward its least significant bit (R37): the next lower bit of
the byte, and after bit 0 of byte n bit 7 of byte n + 1. -/
def nextHighFirst (b : Nat) : Nat := if b % 8 = 0 then b + 15 else b - 1

/-- The frame bits of a HIGH-FIRST field of `len` bits from its most significant bit, most significant first (R37). -/
def highFirstBits (b : Nat) : Nat → List Nat
  | 0 => []
  | len + 1 => b :: highFirstBits (nextHighFirst b) len

/-- The frame bits of a binding's field, most significant first (R36, R37). -/
def Binding.fieldBits (b : Binding) : List Nat :=
  if b.highFirst then highFirstBits b.startBit b.length
  else ((List.range b.length).map (b.startBit + ·)).reverse

/-- Every bit of the field lies in a data byte that the frame carries (R38). -/
def Binding.fits (b : Binding) (data : List Byte) : Bool :=
  b.fieldBits.all fun i => decide (i / 8 < data.length ∧ i < 64)

/-- Frame bit i of the data (2.4). -/
def frameBit (data : List Byte) (i : Nat) : Nat := (data.getD (i / 8) 0).toNat / 2 ^ (i % 8) % 2

/-- The field's bits assembled into an unsigned number (R39). -/
def Binding.unsignedField (b : Binding) (data : List Byte) : Nat :=
  b.fieldBits.foldl (fun n i => 2 * n + frameBit data i) 0

/-- The raw value (R39). -/
def Binding.rawValue (b : Binding) (data : List Byte) : Int :=
  let u := b.unsignedField data
  if b.signed && decide (2 ^ (b.length - 1) ≤ u) then (u : Int) - 2 ^ b.length else u

/-- The value written: product, floor shift, offset, then saturation (R40). -/
def Binding.value (b : Binding) (data : List Byte) : Int :=
  clamp16 (floorDiv (b.rawValue data * b.scale) (2 ^ b.shift) + b.offset)

/-! ### Writes and notices (R41 to R43, R48 to R50) -/

/-- Whether a plausible write of v is a change (R48). -/
def slotChanges (c : SlotCfg) (l : SlotLive) (v : Int) : Bool :=
  c.kind == .state && l.reference != some v

/-- A slot after a plausible write (R42, R48). -/
def SlotLive.plausibleWrite (l : SlotLive) (c : SlotCfg) (v : Int) (now : Nat) : SlotLive :=
  { l with
    state := .fresh
    lastWritten := some v
    lastGood := some v
    timer := if c.timeout = 0 then none else some (now + 10 * c.timeout)
    reference := if slotChanges c l v then some v else l.reference }

/-- A slot after an implausible write (R43). -/
def SlotLive.implausibleWrite (l : SlotLive) (v : Int) : SlotLive :=
  { l with
    state := .implausible
    lastWritten := some v
    timer := none
    implausible := satAdd l.implausible 1 }

/-- The notices one write sends to one watcher, in R49's order or, where two rows name the slot, in either (log 7). -/
def orderNotices {α : Type} (swapped : Bool) (first second : List α) : List α :=
  match first, second with
  | [], l => l
  | l, [] => l
  | a :: as, b :: bs => if swapped then (b :: bs) ++ (a :: as) else (a :: as) ++ (b :: bs)

/-- The notices of a plausible write to the supply unit (R49): the pole row, then the line voltage row. -/
def supplyNotices (s : State) (i : Nat) (v : Int) (change : Bool) : List SupplyNotice :=
  let g := globals s.tables
  orderNotices (Config.noticesSwapped s.freeIndex 0)
    (if g.poleSlot = some i ∧ change = true then [.poleChange i v] else [])
    (if g.lineSlot = some i then [.lineWrite i v change] else [])

/-- The notices of a plausible write to door d (R49): the door-open row, then the release row. -/
def doorNotices (s : State) (d i : Nat) (v : Int) (change : Bool) : List DoorNotice :=
  let c := doorCfg s.tables d
  if c.valid then
    orderNotices (Config.noticesSwapped s.freeIndex (1 + d))
      (if c.openSlot = some i then [.doorOpen i v change] else [])
      (if c.releaseSlot = some i ∧ change = true then [.release i v] else [])
  else []

/-- The notices of a plausible write, sent to every watcher (R49). The write is one free choice (log 7). -/
def sendNotices (i : Nat) (v : Int) (change : Bool) (s : State) : State :=
  { s with
    freeIndex := s.freeIndex + 1
    regulator := { s.regulator with
      notices := s.regulator.notices ++
        (if (globals s.tables).modeSlot = some i ∧ change = true then
          [{ slot := i, value := v, change := change }] else []) }
    supply := { s.supply with notices := s.supply.notices ++ supplyNotices s i v change }
    doors := { s.doors with
      doors := s.doors.doors.mapIdx fun d l => { l with notices := l.notices ++ doorNotices s d i v change } } }

/-- A leave notice for slot i, which was FRESH when `wasFresh` (R50): the line voltage slot's new state, effective value and
quality. -/
def leaveNotice (wasFresh : Bool) (i : Nat) (s : State) : State :=
  { s with
    supply := { s.supply with
      notices := s.supply.notices ++
        (if wasFresh && (globals s.tables).lineSlot == some i then
          [.lineLeave i (s.slot i).state (s.read (some i)).1 (s.read (some i)).2] else []) } }

/-- A plausible write of v into slot i (R42, R48, R49). -/
def writePlausible (i : Nat) (v : Int) (s : State) : State :=
  sendNotices i v (slotChanges (slotCfg s.tables i) (s.slot i) v)
    (s.setSlot i ((s.slot i).plausibleWrite (slotCfg s.tables i) v s.now))

/-- An implausible write of v into slot i (R43, R50). -/
def writeImplausible (i : Nat) (v : Int) (s : State) : State :=
  leaveNotice ((s.slot i).state == .fresh) i
    (raise .slotImplausible (s.setSlot i ((s.slot i).implausibleWrite v)))

/-- A write of v into slot i (R41). -/
def writeSlot (i : Nat) (v : Int) (s : State) : State :=
  if (slotCfg s.tables i).plausible v then writePlausible i v s else writeImplausible i v s

/-! ### Running a run (R35, R38) -/

/-- One binding of a hand-off (R35, R38): a length of 0 or above 16 is skipped silently; a field beyond the data is skipped,
counted and flagged. A binding's slot lies in 0..95 (R168). -/
def runBinding (h : HandOff) (s : State) (k : Nat) : State :=
  let b := Binding.ofRec (record s.tables .bindings k)
  if b.length = 0 ∨ 16 < b.length ∨ 96 ≤ b.slot then s
  else if b.fits h.data then writeSlot b.slot (b.value h.data) s
  else countLengthShort h.port s

/-- A hand-off's run, its bindings in ascending index (R35). -/
def runBindings (h : HandOff) (s : State) : State :=
  ((List.range h.count).map (h.first + ·)).foldl (runBinding h) s

/-- BINDER_RUN (R35): the oldest hand-off is run to its end. -/
def execBinderRun (s : State) : Result :=
  match s.binder with
  | h :: rest => .next (runBindings h (s.setBinder rest))
  | [] => .next s

/-- A slot after its staleness timer's expiry (R44). -/
def SlotLive.expired (l : SlotLive) : SlotLive := { l with state := .stale, timer := none }

/-- A staleness expiry at slot i (R44, R50). -/
def staleSlot (i : Nat) (s : State) : State :=
  leaveNotice true i (raise .slotStale (s.setSlot i (s.slot i).expired))

/-- STALENESS_EXPIRY (R44). The timer runs only in FRESH. -/
def execStalenessExpiry (slot : Fin 96) (s : State) : Result :=
  onExpiry (s.slot slot).timer (staleSlot slot) s

end Sys2Proof.Machine
end

