-- ==== Sys2Proof/Machine/Zones.lean ====
section
/-! DEFINITION. The zone regulator (chapter 4): the climate state, profile selection, the zone step, and the commands
VEHICLE_MODE_NOTICE, ZONE_STEP and STORAGE_HOLD_EXPIRY. -/

namespace Sys2Proof.Machine

/-! ### Climate state (4.2) -/

/-- The vehicle mode a value stands for (R57). -/
def VehicleMode.ofValue (m : Int) : VehicleMode :=
  if m = 1 then .prepare
  else if m = 2 then .service
  else if m = 3 then .layover
  else if m = 4 then .wash
  else .parked

/-- The climate state of a vehicle mode (R57). -/
def VehicleMode.climate : VehicleMode → Climate
  | .parked => .standby
  | .prepare | .service | .layover | .wash => .active

/-- The place of a vehicle mode in a zone's profile map; none for PARKED (R62). -/
def VehicleMode.mapEntry : VehicleMode → Option Nat
  | .parked => none
  | .prepare => some 0
  | .service => some 1
  | .layover => some 2
  | .wash => some 3

/-- A zone cleared at the change to STANDBY (R59). -/
def ZoneLive.toStandby (l : ZoneLive) : ZoneLive :=
  { l with
    condition := .idle
    integral := 0
    rawDemand := 0
    demand := 0
    blower := 0
    damper := 0
    request := 0
    storageRequest := 0
    hold := none }

/-- The profile zone z's map gives for a vehicle mode, or `kept` when PARKED (R62). -/
def profileFor (t : Tables) (z : Nat) (mode : VehicleMode) (kept : Nat) : Nat :=
  match mode.mapEntry with
  | some e => (zoneCfg t z).profileMap.getD e 0
  | none => kept

/-- Profile selection of one zone (R62): a changed profile clamps the integral to its limit. -/
def selectProfile (t : Tables) (mode : VehicleMode) (z : Nat) (l : ZoneLive) : ZoneLive :=
  let p := profileFor t z mode l.profile
  let limit := (profileCfg t z p).integralLimit
  if p = l.profile then l
  else { l with profile := p, integral := clampInt (-limit) limit l.integral }

/-- The zones after a vehicle mode is derived: at a change to STANDBY each valid zone is cleared (R59), and each valid
zone's profile is reselected (R58, R60, R62). -/
def zonesAtMode (t : Tables) (changed : Bool) (mode : VehicleMode) (zones : List ZoneLive) : List ZoneLive :=
  zones.mapIdx fun z l =>
    if (zoneCfg t z).valid then
      selectProfile t mode z (if changed && mode.climate == .standby then l.toStandby else l)
    else l

/-- The climate state change's notices to the four blocks that take them (R58). -/
def sendClimate (changed : Bool) (c : Climate) (s : State) : State :=
  let more := if changed then [c] else []
  { s with
    doors := { s.doors with climateNotices := s.doors.climateNotices ++ more }
    screens := { s.screens with climateNotices := s.screens.climateNotices ++ more }
    overrides := { s.overrides with climateNotices := s.overrides.climateNotices ++ more }
    composer := { s.composer with climateNotices := s.composer.climateNotices ++ more } }

/-- The climate state derived from a vehicle mode value (R57, R58, R61). -/
def deriveClimate (m : Int) (s : State) : State :=
  let mode := VehicleMode.ofValue m
  let changed := mode.climate != s.regulator.climate
  sendClimate changed mode.climate
    (raiseWhen changed .climateState
      (s.setRegulator { s.regulator with
        climate := mode.climate
        mode := mode
        zones := zonesAtMode s.tables changed mode s.regulator.zones }))

/-- VEHICLE_MODE_NOTICE (R58): the oldest change notice of the vehicle mode slot. -/
def execVehicleModeNotice (s : State) : Result :=
  match s.regulator.notices with
  | n :: rest => .next (deriveClimate n.value (s.setRegulator { s.regulator with notices := rest }))
  | [] => .next s

/-! ### Setpoint and temperature (4.5, 4.6) -/

/-- The curve value at o, from the segment of index i on (R64). -/
def curveFrom (t : Tables) (o : Int) : Nat → Nat → Int
  | i, n + 1 =>
    if o < curveX t (i + 1) then
      curveY t i + floorDiv ((o - curveX t i) * (curveY t (i + 1) - curveY t i)) (curveX t (i + 1) - curveX t i)
    else curveFrom t o (i + 1) n
  | i, 0 => curveY t i

/-- The curve value at an outdoor temperature (R64). -/
def curveValue (t : Tables) (o : Int) : Int :=
  if o < curveX t 0 then curveY t 0 else curveFrom t o 0 7

/-- The knob term of a CAB zone (R65). -/
def knobTerm (r : Int × Quality) : Int := if r.2.present then clampInt (-30) 30 r.1 else 0

/-- The effective setpoint of zone z under a profile (R64, R65). -/
def zoneSetpoint (s : State) (z : Nat) (p : Profile) : Int :=
  let c := zoneCfg s.tables z
  let o := (s.read (globals s.tables).outdoorSlot).1
  let curve := floorDiv (curveValue s.tables o * p.curveGain) 16
  clampInt 50 300
    (match c.cls with
      | .cab => p.base + curve + s.override.cabOffset + knobTerm (s.read c.knob)
      | .saloon => p.base + curve + s.override.saloonOffset)

/-- The readings of the sensors in use: weight, value, quality (R56, R66). -/
def sensorReadings (s : State) (z : Nat) : List (Nat × Int × Quality) :=
  ((zoneCfg s.tables z).sensors.filter fun e => e.2 != 0).map fun e => (e.2, s.read e.1)

/-- The best quality among readings (R66). -/
def bestQuality (rs : List (Nat × Int × Quality)) : Quality :=
  if rs.any fun r => r.2.2 == .good then .good
  else if rs.any fun r => r.2.2 == .degraded then .degraded
  else .none

/-- The weighted mean of readings, rounded down (R66); 0 over none. -/
def weightedMean (rs : List (Nat × Int × Quality)) : Int :=
  let w : Nat := (rs.map fun r => r.1).sum
  let sum : Int := (rs.map fun r => (r.1 : Int) * r.2.1).sum
  if w = 0 then 0 else clampInt (-400) 850 (floorDiv sum w)

/-- Tier and measured temperature of zone z (R66). -/
def zoneTemperature (s : State) (z : Nat) : Quality × Int :=
  let rs := sensorReadings s z
  let tier := bestQuality rs
  (tier, weightedMean (rs.filter fun r => r.2.2 == tier))

/-! ### The PI law (4.7) -/

/-- The used error: the error saturated to -500..500 and taken to 0 within the deadband (R68). -/
def usedError (sp t deadband : Int) : Int :=
  let e := clampInt (-500) 500 (sp - t)
  if -deadband ≤ e ∧ e ≤ deadband then 0
  else if 0 < e then e - deadband
  else e + deadband

/-- Whether the integral's step is held back (R69), for a zone that is REGULATING. -/
def integralFrozen (l : ZoneLive) (share : ZoneShare) (supply : SupplyState) (mode : OverrideMode) (step : Int) : Bool :=
  decide ((1000 < l.rawDemand ∧ 0 < step) ∨ (l.rawDemand < -1000 ∧ step < 0))
    || (share.limited && decide ((0 < l.demand ∧ 0 < step) ∨ (l.demand < 0 ∧ step < 0)))
    || supply == .breaking || supply == .held || supply == .resuming
    || (decide (step < 0) && l.hold.isSome)
    || mode == .ventOnly

/-- A demand with the heat and cool enables applied (R72). -/
def enabledDemand (p : Profile) (d : Int) : Int :=
  if 0 < d ∧ p.heatEnable = false then 0
  else if d < 0 ∧ p.coolEnable = false then 0
  else d

/-- The feedforward into zone z: the sum over the valid doors whose primary zone it is, within 0..400 (R72, R95). -/
def zoneFeedforward (s : State) (z : Nat) : Nat :=
  min 400 (((List.range 6).map fun d =>
    if (doorCfg s.tables d).valid && (doorCfg s.tables d).primaryZone == z then (s.door d).ff else 0).sum)

/-- Integral, raw demand and demand of a zone's step before the override mode acts. -/
structure Regulated where
  integral  : Int
  rawDemand : Int
  demand    : Int
  deriving DecidableEq, Repr

/-- The PI law of a REGULATING zone (R68 to R72). -/
def regulate (p : Profile) (l : ZoneLive) (share : ZoneShare) (supply : SupplyState) (mode : OverrideMode)
    (sp t : Int) (ff : Nat) : Regulated :=
  let e := usedError sp t p.deadband
  let prop := floorDiv (p.kp * e) 8
  let step := floorDiv (p.ki * e) 32
  let i0 := if integralFrozen l share supply mode step then l.integral else l.integral + step
  let i := clampInt (-p.integralLimit) p.integralLimit i0
  let raw := clamp16 (prop + floorDiv i 16 + ff)
  { integral := i, rawDemand := raw, demand := enabledDemand p (clampInt (-1000) 1000 raw) }

/-- The fallback demand of a zone without sensors (R67). -/
def fallBack (p : Profile) (l : ZoneLive) (fallbackDemand : Int) : Regulated :=
  let d := enabledDemand p fallbackDemand
  { integral := l.integral, rawDemand := d, demand := d }

/-- The override mode applied to a step's result (R73). -/
def applyMode (mode : OverrideMode) (r : Regulated) : Regulated :=
  match mode with
  | .normal => r
  | .ventOnly => { r with demand := 0, rawDemand := 0 }
  | .off => { integral := 0, demand := 0, rawDemand := 0 }

/-! ### Blower, damper and requests (4.8, 4.9) -/

/-- A valid screen channel whose stored condition is FOGGING or ICE (R75, R112). -/
def screenImposes (s : State) (c : Nat) : Bool :=
  (screenCfg s.tables c).valid && ((s.screen c).condition == .fogging || (s.screen c).condition == .ice)

/-- The screen blower floor imposed on the cab (R112). -/
def screenBlowerFloor (s : State) : Nat :=
  (List.range 2).foldl (fun m c => if screenImposes s c then max m (screenCfg s.tables c).blowerFloor else m) 0

/-- The blower demand (R74). -/
def zoneBlower (s : State) (z : Nat) (mode : OverrideMode) (demand : Int) : Nat :=
  let c := zoneCfg s.tables z
  let top := max c.blowerMin c.blowerMax
  let base := match mode with
    | .off => 0
    | .normal | .ventOnly => c.blowerMin + (top - c.blowerMin) * demand.natAbs / 1000
  let floor1 := max base s.override.blowerFloor
  min 1000 (match c.cls with
    | .cab => max floor1 (screenBlowerFloor s)
    | .saloon => floor1)

/-- The damper demand (R75). -/
def zoneDamper (s : State) (z : Nat) (p : Profile) : Nat :=
  if (zoneCfg s.tables z).cls = .cab ∧ ((List.range 2).any fun c => screenImposes s c) = true then 1000
  else match s.override.recirculation with
    | .auto => p.freshAir
    | .fresh => 1000
    | .recirc => 0

/-- The rated power of a zone's usable outputs of a function in the conditioning role (R76). -/
def conditioningSum (s : State) (z : Nat) (fn : OutputFn) : Nat :=
  (((conditioningOutputs s.tables z fn).filter (usable s.composer.outputs)).map
    fun k => (outputCfg s.tables k).rated).sum

/-- The rated power of a zone's blower output, if usable (R76). -/
def blowerRated (s : State) (z : Nat) : Nat :=
  match zoneBlowerOutput s.tables z with
  | some k => if usable s.composer.outputs k then (outputCfg s.tables k).rated else 0
  | none => 0

/-- The vent power of a zone (R77). -/
def ventPower (s : State) (z : Nat) (blower : Nat) : Nat := blowerRated s z * blower / 1000

/-- The conditioning power of a zone (R77). -/
def conditioningPower (s : State) (z : Nat) (demand : Int) : Nat :=
  if 0 < demand then demand.natAbs * conditioningSum s z .heat / 1000
  else if demand < 0 then demand.natAbs * conditioningSum s z .cool / 1000
  else 0

/-- The zone's request (R77). -/
def zoneRequest (s : State) (z : Nat) (demand : Int) (blower : Nat) : Nat :=
  let supply := s.composer.copy.supply
  min 1500 (if supply.cut then ventPower s z blower
    else ventPower s z blower + conditioningPower s z demand)

/-- A zone's part of the composer's copy of the last publication. -/
def zoneShare (s : State) (z : Nat) : ZoneShare := s.composer.copy.zones.getD z {}

/-- The zone's storage request (R78). G is the zone's class grant in the copy; where the copy still holds a P1 grant, because
an activation made the CAB zone a SALOON zone since that publication, it is that grant (DESIGN CHOICE, log 45). -/
def zoneStorageRequest (s : State) (z : Nat) (p : Profile) (regulating : Bool) (mode : OverrideMode) (sp t demand : Int)
    (blower : Nat) : Nat :=
  let c := zoneCfg s.tables z
  let supply := s.composer.copy.supply
  if c.cls = .saloon ∧ c.sect ≠ .joint ∧ 0 < p.storageBand ∧ regulating = true ∧ mode = .normal
      ∧ p.heatEnable = true ∧ 0 ≤ demand ∧ (supply = .onLine ∨ supply = .offWire) ∧ 0 < s.composer.copy.surplus
      ∧ t < sp + p.storageBand then
    min 1500 (conditioningSum s z .heat - ((zoneShare s z).grant - ventPower s z blower))
  else 0

/-! ### The step (R63) -/

/-- The override mode of a zone's class (R73). -/
def zoneMode (s : State) (z : Nat) : OverrideMode :=
  match (zoneCfg s.tables z).cls with
  | .cab => s.override.cabMode
  | .saloon => s.override.saloonMode

/-- A zone's live state after one step in ACTIVE (R63 to R78); its timer has been restarted. -/
def zoneStepActive (s : State) (z : Nat) : ZoneLive :=
  let l := s.zone z
  let p := profileCfg s.tables z l.profile
  let mode := zoneMode s z
  let sp := zoneSetpoint s z p
  let tt := zoneTemperature s z
  let regulating := tt.1 != .none
  let r := applyMode mode
    (if regulating then
      regulate p l (zoneShare s z) s.composer.copy.supply mode sp tt.2 (zoneFeedforward s z)
    else fallBack p l (zoneCfg s.tables z).fallbackDemand)
  let blower := zoneBlower s z mode r.demand
  { condition := if regulating then .regulating else .fallback
    profile := l.profile
    setpoint := sp
    temp := tt.2
    tier := tt.1
    mode := mode
    integral := r.integral
    rawDemand := r.rawDemand
    demand := r.demand
    blower := blower
    damper := zoneDamper s z p
    request := zoneRequest s z r.demand blower
    storageRequest := zoneStorageRequest s z p regulating mode sp tt.2 r.demand blower
    hold := l.hold
    step := s.startTimer Config.zoneStepMs
    unpublished := l.unpublished }

/-- A zone's live state after one step in STANDBY: setpoint and temperature alone (R63). -/
def zoneStepStandby (s : State) (z : Nat) : ZoneLive :=
  let l := s.zone z
  let tt := zoneTemperature s z
  { l with
    setpoint := zoneSetpoint s z (profileCfg s.tables z l.profile)
    temp := tt.2
    tier := tt.1
    step := s.startTimer Config.zoneStepMs }

/-- One step of zone z (R63): the results stored together, and ZONE_FALLBACK set on entry to FALLBACK (R67). -/
def stepZone (z : Nat) (s : State) : State :=
  match s.regulator.climate with
  | .active =>
    raiseWhen ((zoneTemperature s z).1 == .none && (s.zone z).condition != .fallback) .zoneFallback
      (s.setZone z (zoneStepActive s z))
  | .standby => s.setZone z (zoneStepStandby s z)

/-- ZONE_STEP (R63). -/
def execZoneStep (zone : Fin 8) (s : State) : Result :=
  onExpiry (s.zone zone).step (stepZone zone) s

/-- A zone's storage hold timer has expired (R70). -/
def endHold (z : Nat) (s : State) : State := s.setZone z { s.zone z with hold := none }

/-- STORAGE_HOLD_EXPIRY (R70). -/
def execStorageHoldExpiry (zone : Fin 8) (s : State) : Result :=
  onExpiry (s.zone zone).hold (endHold zone) s

end Sys2Proof.Machine
end

