-- ==== Sys2Proof/Machine/Doors.lean ====
section
/-! DEFINITION. The door draft unit (chapter 5): DOOR_PERIOD, DOOR_OPEN_NOTICE, RELEASE_NOTICE, OPEN_TIMER_EXPIRY,
RUN_ON_EXPIRY, SIGNAL_LOST_EXPIRY and DOOR_CLIMATE_NOTICE. -/

namespace Sys2Proof.Machine

/-! ### Curtain (5.4) -/

/-- The OPEN stage at an outdoor temperature (R92). -/
def openStage (g : Globals) (o : Int) : Nat :=
  if o < g.curtain1 then 3
  else if o < g.curtain2 then 2
  else if o < g.curtain3 then 1
  else 0

/-- Curtain stage and fan level of a state without the inhibit (R92). -/
def curtainOf (s : State) (st : DoorState) (heldStage : Nat) : Nat × FanLevel :=
  match st with
  | .ready => (1, .off)
  | .opened => (openStage (globals s.tables) (s.read (globals s.tables).outdoorSlot).1, .on)
  | .runOn => (heldStage, .on)
  | .layover => (1, .low)
  | .idle | .fault => (0, .off)

/-- The curtain evaluation of a door (R92): a curtain inhibit holds stage and fan at 0 and OFF. -/
def evaluateCurtain (s : State) (l : DoorLive) : DoorLive :=
  let c := curtainOf s l.state l.heldStage
  { l with
    ownStage := c.1
    stage := if s.override.curtainInhibit then 0 else c.1
    fan := if s.override.curtainInhibit then .off else c.2 }

/-- The demanded value of a curtain heat output at a stage (R93). -/
def curtainHeatDemand (kind : OutputKind) (stage : Nat) : Nat :=
  match kind with
  | .staged n => min stage n
  | .proportional => stage * 1000 / 3
  | .switched => if stage = 0 then 0 else 1

/-- The demanded value of a curtain fan output at a fan level (R93). -/
def curtainFanDemand (kind : OutputKind) (fan : FanLevel) : Nat :=
  match fan, kind with
  | .off, _ => 0
  | .low, .staged n => (n + 1) / 2
  | .on, .staged n => n
  | .low, .proportional => 500
  | .on, .proportional => 1000
  | .low, .switched => 1
  | .on, .switched => 1

/-! ### Request (5.6) -/

/-- The heat power of a door's request at a curtain stage (R97). -/
def doorHeatPower (s : State) (d stage : Nat) : Nat :=
  match curtainHeatOutput s.tables d with
  | some k => if usable s.composer.outputs k then stage * (globals s.tables).stagePower else 0
  | none => 0

/-- The fan power of a door's request at a fan level (R97). -/
def doorFanPower (s : State) (d : Nat) (fan : FanLevel) : Nat :=
  match curtainFanOutput s.tables d with
  | some k =>
    let o := outputCfg s.tables k
    if usable s.composer.outputs k then o.kind.power o.rated (curtainFanDemand o.kind fan) else 0
  | none => 0

/-- The door's request (R97). -/
def doorRequest (s : State) (d stage : Nat) (fan : FanLevel) : Nat :=
  min 1500 (if s.composer.copy.supply.cut then doorFanPower s d fan
    else doorHeatPower s d stage + doorFanPower s d fan)

/-- The curtain evaluation and the request a door makes at every transition (R85 to R91). -/
def settleDoor (s : State) (d : Nat) (l : DoorLive) : DoorLive :=
  let e := evaluateCurtain s l
  { e with request := doorRequest s d e.stage e.fan }

/-! ### Period (5.3, 5.5) -/

/-- The speed is below the pre-open threshold (R86). -/
def slowEnough (s : State) : Bool :=
  let g := globals s.tables
  let v := s.read g.speedSlot
  v.2.present && decide (v.1 < g.preOpenSpeed)

/-- The release slot reads 1 with quality GOOD or DEGRADED (R87). -/
def releaseStands (s : State) (d : Nat) : Bool :=
  let v := s.read (doorCfg s.tables d).releaseSlot
  v.2.present && decide (v.1 = 1)

/-- The pre-open test (R87). -/
def preOpen (s : State) (d : Nat) (st : DoorState) : DoorState :=
  match st with
  | .idle => if releaseStands s d && slowEnough s then .ready else .idle
  | .ready => if releaseStands s d && slowEnough s then .ready else .idle
  | st => st

/-- The heat debt a door gains in one period (R94). -/
def debtGain (s : State) (d : Nat) (st : DoorState) : Nat :=
  let c := doorCfg s.tables d
  let diff : Int := max 0 ((s.zone c.primaryZone).temp - (s.read (globals s.tables).outdoorSlot).1)
  if (zoneCfg s.tables c.primaryZone).valid then
    match st with
    | .opened => (floorDiv (diff * c.openFactor) 64).toNat
    | .layover => (floorDiv (diff * floorDiv c.openFactor 4) 64).toNat
    | _ => 0
  else 0

/-- The debt after the accumulation (R94). -/
def debtGained (s : State) (d : Nat) (st : DoorState) (debt : Nat) : Nat :=
  min (doorCfg s.tables d).debtLimit (debt + debtGain s d st)

/-- The feedforward of a debt (R95). -/
def feedforward (s : State) (d debt : Nat) : Nat := min 400 (debt * (doorCfg s.tables d).paybackGain / 4096)

/-- The class request of zone z as a door reads it (R96): that of the copy of the last publication, but 0 for a zone that is
not valid (R83) and for one activated since that publication was taken (R100, log 29). -/
def readRequest (s : State) (z : Nat) : Nat :=
  if (zoneCfg s.tables z).valid && !(s.zone z).unpublished then (zoneShare s z).request else 0

/-- The part of a feedforward that the budget served (R96). -/
def payback (s : State) (d ff : Nat) : Nat :=
  let z := (doorCfg s.tables d).primaryZone
  let r := readRequest s z
  if s.composer.copy.supply.cut then 0
  else if r = 0 then ff
  else ff * (zoneShare s z).grant / r

/-- Debt and feedforward after the third stage of a period, which FAULT skips (R90, R94 to R96). -/
def payDebt (s : State) (d : Nat) (l : DoorLive) : DoorLive :=
  match l.state with
  | .fault => l
  | st =>
    let debt := debtGained s d st l.debt
    let ff := feedforward s d debt
    { l with debt := debt - payback s d ff, ff := ff }

/-- A door after one period in ACTIVE (R84): pre-open test, curtain evaluation, debt, request. -/
def doorPeriodActive (s : State) (d : Nat) : DoorLive :=
  let l := s.door d
  let moved := evaluateCurtain s { l with state := preOpen s d l.state }
  let paid := payDebt s d moved
  { paid with
    request := doorRequest s d paid.stage paid.fan
    period := s.startTimer Config.doorPeriodMs }

/-- One period of door d (R84, R98). -/
def periodDoor (d : Nat) (s : State) : State :=
  s.setDoor d
    (match s.doors.climate with
      | .active => doorPeriodActive s d
      | .standby => { s.door d with period := s.startTimer Config.doorPeriodMs })

/-- DOOR_PERIOD (R84). -/
def execDoorPeriod (door : Fin 6) (s : State) : Result :=
  onExpiry (s.door door).period (periodDoor door) s

/-! ### Notices (5.3) -/

/-- Entry to OPEN (R85, R91): the open timer starts with the layover time. -/
def enterOpen (s : State) (d : Nat) (l : DoorLive) : DoorLive :=
  settleDoor s d { l with
    state := .opened
    runOn := none
    openTimer := s.startTimer (1000 * (doorCfg s.tables d).layoverTime) }

/-- Entry to RUN_ON (R85): the held stage takes the curtain stage, as without the inhibit (R92, log 12). -/
def enterRunOn (s : State) (d : Nat) (l : DoorLive) : DoorLive :=
  settleDoor s d { l with
    state := .runOn
    heldStage := l.ownStage
    openTimer := none
    runOn := s.startTimer (1000 * (doorCfg s.tables d).runOnTime) }

/-- A door after a door-open write notice carrying v in ACTIVE (R85, R91). -/
def doorOpenActive (s : State) (d : Nat) (v : Int) : DoorLive :=
  let l := { s.door d with signalLost := s.startTimer (1000 * (globals s.tables).signalLostTime) }
  match l.state with
  | .idle => if v = 1 then enterOpen s d l else l
  | .ready => if v = 1 then enterOpen s d l else l
  | .opened => if v = 1 then l else enterRunOn s d l
  | .layover => if v = 1 then l else enterRunOn s d l
  | .runOn => if v = 1 then enterOpen s d l else l
  | .fault => if v = 1 then enterOpen s d l else settleDoor s d { l with state := .idle }

/-- A door after a release change notice carrying v in ACTIVE (R86). A door with no release slot never enters READY (R87),
whatever its record named when the notice was sent; the slot that the notice carries is not compared (DESIGN CHOICE, log 42). -/
def releaseActive (s : State) (d : Nat) (v : Int) : DoorLive :=
  let l := s.door d
  match l.state with
  | .idle =>
    if v = 1 ∧ slowEnough s = true ∧ (doorCfg s.tables d).releaseSlot.isSome = true then
      settleDoor s d { l with state := .ready }
    else l
  | .ready => if v = 1 then l else settleDoor s d { l with state := .idle }
  | .opened | .layover | .runOn | .fault => l

/-- A door acts on a notice only while it is valid and its unit is in ACTIVE (R83, R98). -/
def doorListens (s : State) (d : Nat) : Bool := (doorCfg s.tables d).valid && s.doors.climate == .active

/-- The oldest notice of door d removed. -/
def dropDoorNotice (d : Nat) (rest : List DoorNotice) (s : State) : State :=
  s.setDoor d { s.door d with notices := rest }

/-- A door-open write notice taken (R85, R91, R98). -/
def takeDoorOpen (d : Nat) (v : Int) (s : State) : State :=
  s.setDoor d (if doorListens s d then doorOpenActive s d v else s.door d)

/-- A release change notice taken (R86, R98). -/
def takeRelease (d : Nat) (v : Int) (s : State) : State :=
  s.setDoor d (if doorListens s d then releaseActive s d v else s.door d)

/-- DOOR_OPEN_NOTICE (R85): the oldest notice of the door, when it is a door-open write notice. The slot it carries is not
compared with the live record: a notice sent before an activation that changed the door-open slot is taken as one of the
new slot (DESIGN CHOICE, log 42). -/
def execDoorOpenNotice (door : Fin 6) (s : State) : Result :=
  match (s.door door).notices with
  | .doorOpen _ v _ :: rest => .next (takeDoorOpen door v (dropDoorNotice door rest s))
  | _ => .next s

/-- RELEASE_NOTICE (R86): the oldest notice of the door, when it is a release change notice. The slot it carries is not
compared with the live record, as for DOOR_OPEN_NOTICE (DESIGN CHOICE, log 42). -/
def execReleaseNotice (door : Fin 6) (s : State) : Result :=
  match (s.door door).notices with
  | .release _ v :: rest => .next (takeRelease door v (dropDoorNotice door rest s))
  | _ => .next s

/-! ### Timers (5.3) -/

/-- The open timer's expiry (R88). -/
def openTimerEnds (d : Nat) (s : State) : State :=
  s.setDoor d (settleDoor s d { s.door d with state := .layover, openTimer := none })

/-- OPEN_TIMER_EXPIRY (R88). The timer runs in OPEN only. -/
def execOpenTimerExpiry (door : Fin 6) (s : State) : Result :=
  onExpiry (s.door door).openTimer (openTimerEnds door) s

/-- The run-on timer's expiry (R89). -/
def runOnEnds (d : Nat) (s : State) : State :=
  s.setDoor d (settleDoor s d { s.door d with state := .idle, heldStage := 0, runOn := none })

/-- RUN_ON_EXPIRY (R89). The timer runs in RUN_ON only. -/
def execRunOnExpiry (door : Fin 6) (s : State) : Result :=
  onExpiry (s.door door).runOn (runOnEnds door) s

/-- A door in FAULT (R90). -/
def DoorLive.faulted (l : DoorLive) : DoorLive :=
  { l with
    state := .fault
    stage := 0
    ownStage := 0
    heldStage := 0
    fan := .off
    ff := 0
    request := 0
    openTimer := none
    runOn := none
    signalLost := none }

/-- The signal-lost timer's expiry (R90). -/
def signalLostEnds (d : Nat) (s : State) : State := raise .doorFault (s.setDoor d (s.door d).faulted)

/-- SIGNAL_LOST_EXPIRY (R90). -/
def execSignalLostExpiry (door : Fin 6) (s : State) : Result :=
  onExpiry (s.door door).signalLost (signalLostEnds door) s

/-! ### Climate state (5.7) -/

/-- The values of R98's table. -/
def DoorLive.cleared (l : DoorLive) : DoorLive :=
  { state := .idle
    stage := 0
    ownStage := 0
    heldStage := 0
    fan := .off
    debt := 0
    ff := 0
    request := 0
    period := l.period
    openTimer := none
    runOn := none
    signalLost := none
    notices := l.notices }

/-- A door after a climate state notice (R98). -/
def doorAtClimate (s : State) (c : Climate) (d : Nat) (l : DoorLive) : DoorLive :=
  if (doorCfg s.tables d).valid then
    match c with
    | .standby => l.cleared
    | .active => { l.cleared with signalLost := s.startTimer (1000 * (globals s.tables).signalLostTime) }
  else l

/-- The door draft unit takes a climate state notice (R98). -/
def doorsTakeClimate (c : Climate) (rest : List Climate) (s : State) : State :=
  s.setDoors { climate := c, climateNotices := rest, doors := s.doors.doors.mapIdx (doorAtClimate s c) }

/-- DOOR_CLIMATE_NOTICE (R98). -/
def execDoorClimateNotice (s : State) : Result :=
  match s.doors.climateNotices with
  | c :: rest => .next (doorsTakeClimate c rest s)
  | [] => .next s

end Sys2Proof.Machine
end

