-- ==== Sys2Proof/Machine/Screens.lean ====
section
/-! DEFINITION. The screen unit (chapter 6): SCREEN_EVALUATION and SCREEN_CLIMATE_NOTICE. -/

namespace Sys2Proof.Machine

/-- Depression, dew point and margin of an evaluation (R104). -/
structure DewPoint where
  depression : Int
  dewPoint   : Int
  margin     : Int
  deriving DecidableEq, Repr

/-- The depression at a relative humidity (R104, steps 1 to 3). -/
def depressionAt (t : Tables) (humidity : Int) : Int :=
  let rh := clampInt 0 1000 humidity
  let i := (floorDiv rh 100).toNat
  let f := rh - 100 * i
  if i < 10 then
    depressionPoint t i - floorDiv ((depressionPoint t i - depressionPoint t (i + 1)) * f) 100
  else depressionPoint t 10

/-- Dew point and margin of channel c (R104). -/
def dewPointOf (s : State) (c : Nat) : DewPoint :=
  let r := screenCfg s.tables c
  let d := depressionAt s.tables (s.read r.humidity).1
  let td := clamp16 ((s.read r.air).1 - d)
  { depression := d, dewPoint := td, margin := clamp16 ((s.read r.glass).1 - td) }

/-- The ice test (R105): it decides for ICE or not. -/
def iceTest (previous : ScreenCondition) (glass outdoor : Int) : Bool :=
  match previous with
  | .ice => decide (glass ≤ 29)
  | .clear | .marginal | .fogging => decide (glass ≤ 0 ∧ outdoor ≤ 5)

/-- The margin's condition (R106); `previous` is FOGGING for a channel that has just left ICE. -/
def marginCondition (r : ScreenCfg) (previous : ScreenCondition) (m : Int) : ScreenCondition :=
  if m ≤ r.fog then .fogging
  else if previous = .fogging ∧ m ≤ r.fog + r.hysteresis then .fogging
  else if m ≤ r.marginal then .marginal
  else if (previous = .fogging ∨ previous = .marginal) ∧ m ≤ r.marginal + r.hysteresis then .marginal
  else .clear

/-- Condition and basis of channel c with margin m (R105 to R107). -/
def screenCondition (s : State) (c : Nat) (m : Int) : ScreenCondition × ScreenBasis :=
  let r := screenCfg s.tables c
  let previous := (s.screen c).condition
  let glass := s.read r.glass
  let airLost := !((s.read r.air).2.present && (s.read r.humidity).2.present)
  let outdoor := (s.read (globals s.tables).outdoorSlot).1
  if glass.2.present = false then (if outdoor ≤ 5 then .fogging else .marginal, .glassLost)
  else if iceTest previous glass.1 outdoor then (.ice, if airLost then .airLost else .iceTest)
  else if airLost then (.marginal, .airLost)
  else (marginCondition r (if previous = .ice then .fogging else previous) m, .margin)

/-- The level of a condition (R108). -/
def ScreenCondition.level : ScreenCondition → Nat
  | .clear => 0
  | .marginal => 1
  | .fogging => 2
  | .ice => 3

/-- FOGGING or ICE. -/
def ScreenCondition.fogged (c : ScreenCondition) : Bool := c == .fogging || c == .ice

/-- The demanded value of a screen heater at a level (R110). -/
def screenHeatDemand (kind : OutputKind) (level : Nat) : Nat :=
  match kind with
  | .staged n => min level n
  | .proportional => level * 1000 / 3
  | .switched => if level = 0 then 0 else 1

/-- The channel's request at an effective level (R111). -/
def screenRequest (s : State) (c level : Nat) : Nat :=
  let power := match screenHeaterOutput s.tables c with
    | some k =>
      if usable s.composer.outputs k ∧ 0 < level then (screenCfg s.tables c).levelPower.getD (level - 1) 0 else 0
    | none => 0
  if s.composer.copy.supply.cut then 0 else min 1500 power

/-- A channel after one evaluation in ACTIVE (R103); its timer has been restarted. -/
def screenActive (s : State) (c : Nat) : ScreenLive :=
  let w := dewPointOf s c
  let cond := screenCondition s c w.margin
  let level := max cond.1.level s.override.screenFloor
  { condition := cond.1
    basis := cond.2
    conditionLevel := cond.1.level
    effectiveLevel := level
    depression := w.depression
    dewPoint := w.dewPoint
    margin := w.margin
    request := screenRequest s c level
    timer := s.startTimer Config.screenEvalMs }

/-- A channel after one evaluation in STANDBY: depression, dew point and margin alone (R103). -/
def screenStandby (s : State) (c : Nat) : ScreenLive :=
  let w := dewPointOf s c
  { s.screen c with
    depression := w.depression
    dewPoint := w.dewPoint
    margin := w.margin
    timer := s.startTimer Config.screenEvalMs }

/-- One evaluation of channel c (R103), with SCREEN_FOG set on a change to FOGGING or ICE from CLEAR or MARGINAL (R108). -/
def evaluateScreen (c : Nat) (s : State) : State :=
  match s.screens.climate with
  | .active =>
    raiseWhen ((screenActive s c).condition.fogged && !(s.screen c).condition.fogged) .screenFog
      (s.setScreen c (screenActive s c))
  | .standby => s.setScreen c (screenStandby s c)

/-- SCREEN_EVALUATION (R103). -/
def execScreenEvaluation (channel : Fin 2) (s : State) : Result :=
  onExpiry (s.screen channel).timer (evaluateScreen channel) s

/-- A channel's condition, levels and request cleared (R113). -/
def ScreenLive.toClear (l : ScreenLive) : ScreenLive :=
  { l with condition := .clear, basis := .margin, conditionLevel := 0, effectiveLevel := 0, request := 0 }

/-- The screen unit takes a climate state notice: at STANDBY each valid channel is cleared, and at ACTIVE it starts from
those values (R113). -/
def screensTakeClimate (c : Climate) (rest : List Climate) (s : State) : State :=
  s.setScreens
    { climate := c
      climateNotices := rest
      channels := s.screens.channels.mapIdx fun i l => if (screenCfg s.tables i).valid then l.toClear else l }

/-- SCREEN_CLIMATE_NOTICE (R113). -/
def execScreenClimateNotice (s : State) : Result :=
  match s.screens.climateNotices with
  | c :: rest => .next (screensTakeClimate c rest s)
  | [] => .next s

end Sys2Proof.Machine
end

