-- ==== Sys2Proof/Machine/Supply.lean ====
section
/-! DEFINITION. The supply and budget unit (chapter 7): the allocation and its publication, the supply state, and
LINE_WRITE_NOTICE, LINE_LEAVE_NOTICE, POLE_CHANGE_NOTICE, RESUME_DELAY_EXPIRY, LONG_BREAK_EXPIRY, BUDGET_TIMER_EXPIRY. -/

namespace Sys2Proof.Machine

/-! ### Ceilings (7.3) -/

/-- The surplus in a supply state (R128). -/
def surplusIn (s : State) (st : SupplyState) : Nat :=
  let g := globals s.tables
  let v := s.read g.regenSlot
  if (st = .onLine ∨ st = .offWire) ∧ v.2 = .good ∧ 0 < v.1 then min g.regenCap v.1.toNat else 0

/-- The line's base ceiling: the line ceiling, limited by the auxiliary available slot when that reads GOOD (R127). -/
def lineBase (s : State) : Int :=
  let g := globals s.tables
  let v := s.read g.auxSlot
  if v.2 = .good then min (g.lineCeiling : Int) v.1 else g.lineCeiling

/-- The target in a supply state (R127). -/
def targetIn (s : State) (st : SupplyState) : Nat :=
  let g := globals s.tables
  (clampInt 0 1500
    (match st with
      | .onLine => lineBase s + surplusIn s st
      | .resuming => lineBase s
      | .offWire => (g.offWireCeiling : Int) + surplusIn s st
      | .breaking | .held => g.breakAllowance)).toNat

/-- C_eff at an allocation (R129): a fall at once, a rise by the ramp at a budget timer expiry only. -/
def nextCeiling (s : State) (ramp : Bool) (target : Nat) : Nat :=
  let c := s.supply.ceiling
  if target < c then target
  else if ramp then min target (c + (globals s.tables).rampStep)
  else c

/-! ### Serving the classes (7.4) -/

/-- The grants of one class and what they leave (R131). -/
structure Served where
  grants    : List Nat
  remainder : Nat
  short     : Bool
  deriving DecidableEq, Repr

/-- One class served from a remainder R (R131): whole when its total fits, in proportion when it does not, and nothing
when a class before it was short. -/
def serveClass (reached : Bool) (remainder : Nat) (requests : List Nat) : Served :=
  let total := requests.sum
  if reached = false then
    { grants := requests.map fun _ => 0, remainder := remainder, short := false }
  else if total ≤ remainder then
    { grants := requests, remainder := remainder - total, short := false }
  else
    let grants := requests.map fun q => q * remainder / total
    { grants := grants, remainder := remainder - grants.sum, short := true }

/-- The stored requests of the six classes (7.4.1), each list over all the sources of its kind; a source that is not valid,
or asks in another class, has 0. -/
structure Requests where
  f       : List Nat
  screens : List Nat
  cabs    : List Nat
  doors   : List Nat
  saloons : List Nat
  storage : List Nat
  deriving DecidableEq, Repr

/-- Zone z is valid and of class c. -/
def validOfClass (t : Tables) (z : Nat) (c : ZoneClass) : Bool := (zoneCfg t z).valid && (zoneCfg t z).cls == c

/-- The stored requests as their owners last stored them (R130, step 4). -/
def storedRequests (s : State) : Requests :=
  { f := (List.range 48).map fun k => if (s.output k).forced.isSome then (s.output k).fRequest else 0
    screens := (List.range 2).map fun c => if (screenCfg s.tables c).valid then (s.screen c).request else 0
    cabs := (List.range 8).map fun z => if validOfClass s.tables z .cab then (s.zone z).request else 0
    doors := (List.range 6).map fun d => if (doorCfg s.tables d).valid then (s.door d).request else 0
    saloons := (List.range 8).map fun z => if validOfClass s.tables z .saloon then (s.zone z).request else 0
    storage := (List.range 8).map fun z => if validOfClass s.tables z .saloon then (s.zone z).storageRequest else 0 }

/-- The grants of the six classes and the first short class (R131 to R133). -/
structure Allotment where
  f          : List Nat
  screens    : List Nat
  cabs       : List Nat
  doors      : List Nat
  saloons    : List Nat
  storage    : List Nat
  shortClass : ShortClass
  deriving DecidableEq, Repr

/-- The classes served in the order F, P0, P1, P2, P3, P4, the last from the lesser of remainder and surplus (R131, R132). -/
def allot (ceiling surplus : Nat) (q : Requests) : Allotment :=
  let f := serveClass true ceiling q.f
  let p0 := serveClass (!f.short) f.remainder q.screens
  let p1 := serveClass (!f.short && !p0.short) p0.remainder q.cabs
  let p2 := serveClass (!f.short && !p0.short && !p1.short) p1.remainder q.doors
  let p3 := serveClass (!f.short && !p0.short && !p1.short && !p2.short) p2.remainder q.saloons
  let p4 := serveClass (!f.short && !p0.short && !p1.short && !p2.short && !p3.short)
    (min p3.remainder surplus) q.storage
  { f := f.grants
    screens := p0.grants
    cabs := p1.grants
    doors := p2.grants
    saloons := p3.grants
    storage := p4.grants
    shortClass :=
      if f.short then .f
      else if p0.short then .p0
      else if p1.short then .p1
      else if p2.short then .p2
      else if p3.short then .p3
      else .none }

/-- Requests and grants of one class side by side. -/
def shares (requests grants : List Nat) : List Share :=
  List.zipWith (fun q g => { request := q, grant := g }) requests grants

/-- Zone z's part of a publication (R133, R134). A zone that is not valid, of which R134 gives request and grant 0 alone,
carries the class of its record as a valid one does (DESIGN CHOICE, log 18). -/
def zoneShareOf (t : Tables) (q : Requests) (a : Allotment) (z : Nat) : ZoneShare :=
  let cab := (zoneCfg t z).cls == .cab
  let request := if cab then q.cabs.getD z 0 else q.saloons.getD z 0
  let grant := if cab then a.cabs.getD z 0 else a.saloons.getD z 0
  { cls := (zoneCfg t z).cls
    request := request
    grant := grant
    limited := decide (grant < request)
    storageRequest := q.storage.getD z 0
    storageGrant := a.storage.getD z 0 }

/-- The publication of an allocation (R134). -/
def publicationOf (t : Tables) (st : SupplyState) (ceiling surplus : Nat) (q : Requests) (a : Allotment) : Publication :=
  { supply := st
    ceiling := ceiling
    shortClass := a.shortClass
    surplus := surplus
    outputs := shares q.f a.f
    screens := shares q.screens a.screens
    zones := (List.range 8).map (zoneShareOf t q a)
    doors := shares q.doors a.doors }

/-- The sum of every grant of a publication: the power it gives out. -/
def Publication.granted (p : Publication) : Nat :=
  (p.outputs.map (·.grant)).sum + (p.screens.map (·.grant)).sum
    + (p.zones.map fun z => z.grant + z.storageGrant).sum + (p.doors.map (·.grant)).sum

/-! ### The allocation (R130) -/

/-- What one allocation forms. -/
structure Allocated where
  state       : SupplyState
  target      : Nat
  surplus     : Nat
  ceiling     : Nat
  publication : Publication
  deriving DecidableEq, Repr

/-- The allocation's results from the state as it stands (R130, steps 1 to 7, with the test of R123). -/
def allocated (ramp : Bool) (s : State) : Allocated :=
  let st := s.supply.state
  let surplus := surplusIn s st
  let target := targetIn s st
  let ceiling := nextCeiling s ramp target
  let st1 := if st = .resuming ∧ ceiling = target then .onLine else st
  let q := storedRequests s
  { state := st1
    target := target
    surplus := surplus
    ceiling := ceiling
    publication := publicationOf s.tables st1 ceiling surplus q (allot ceiling surplus q) }

/-- An allocation (R130 to R134): at a budget timer expiry (`ramp`) or on a change of supply state. -/
def allocate (ramp : Bool) (s : State) : State :=
  let a := allocated ramp s
  let s1 := raiseWhen (a.publication.shortClass != .none) .budgetShort
    (s.setSupply { s.supply with state := a.state, target := a.target, surplus := a.surplus, ceiling := a.ceiling })
  (s1.setSupply { s1.supply with lastPub := a.publication }).setComposer
    { s1.composer with publications := s1.composer.publications ++ [a.publication] }

/-! ### Entries of the supply states (7.2) -/

/-- Entry to BREAK (R118). -/
def enterBreak (s : State) : State :=
  allocate false (raise .supplyBreak
    (s.setSupply { s.supply with
      state := .breaking
      resumeDelay := none
      longBreak := s.startTimer (1000 * (globals s.tables).longBreakTime) }))

/-- Entry to RESUMING (R126). -/
def enterResuming (s : State) : State :=
  allocate false
    (s.setSupply { s.supply with
      state := .resuming
      ceiling := (globals s.tables).breakAllowance
      resumeDelay := none
      longBreak := none })

/-- Entry to OFF_WIRE (R124). -/
def enterOffWire (s : State) : State :=
  allocate false (s.setSupply { s.supply with state := .offWire, resumeDelay := none, longBreak := none })

/-- Entry to HELD (R120). -/
def enterHeld (s : State) : State :=
  allocate false (raise .supplyHeld
    (s.setSupply { s.supply with state := .held, resumeDelay := none, longBreak := none }))

/-- The pole is down: its slot reads 0 with quality GOOD (R116). -/
def poleDown (s : State) : Bool :=
  let v := s.read (globals s.tables).poleSlot
  v.2 == .good && decide (v.1 = 0)

/-- The line drops, by a sample below the break threshold or by a leave notice (R117, R123). -/
def lineDrops (s : State) : State :=
  match s.supply.state with
  | .onLine => if poleDown s then enterOffWire s else enterBreak s
  | .held => enterBreak s
  | .resuming => enterBreak s
  | .breaking => s.setSupply { s.supply with resumeDelay := none }
  | .offWire => s

/-- The last line sample kept: the carried value within 0..1000 (7.1). -/
def lineSample (v : Int) : Nat := (clampInt 0 1000 v).toNat

/-- A line sample in BREAK (R119). -/
def confirmLine (v : Int) (s : State) : State :=
  let g := globals s.tables
  s.setSupply { s.supply with
    resumeDelay :=
      if v < g.resumeLevel then none
      else match s.supply.resumeDelay with
        | some d => some d
        | none => s.startTimer g.resumeDelay }

/-- A line voltage write notice carrying v (R117, R119, R123). -/
def takeLineWrite (v : Int) (s : State) : State :=
  let s1 := s.setSupply { s.supply with lastLine := some (lineSample v) }
  match s1.supply.state with
  | .breaking => confirmLine v s1
  | .onLine | .held | .resuming => if v < (globals s.tables).breakLevel then lineDrops s1 else s1
  | .offWire => s1

/-- A pole change notice carrying v (R124, R125). -/
def takePoleChange (v : Int) (s : State) : State :=
  let g := globals s.tables
  if v = 0 then
    match s.supply.state with
    | .offWire => s
    | _ => enterOffWire s
  else
    match s.supply.state with
    | .offWire =>
      let line := s.read g.lineSlot
      if line.2 = .good ∧ g.resumeLevel ≤ line.1 then enterResuming s else enterBreak s
    | _ => s

/-- The supply unit's notices replaced by those not yet taken. -/
def dropSupplyNotice (rest : List SupplyNotice) (s : State) : State := s.setSupply { s.supply with notices := rest }

/-- LINE_WRITE_NOTICE (R117): the oldest notice, when it is a line voltage write. The slot it carries is not compared with the
live record: one sent before an activation that renamed the line voltage slot still counts (R135; DESIGN CHOICE, log 44). -/
def execLineWriteNotice (s : State) : Result :=
  match s.supply.notices with
  | .lineWrite _ v _ :: rest => .next (takeLineWrite v (dropSupplyNotice rest s))
  | _ => .next s

/-- LINE_LEAVE_NOTICE (R117): the oldest notice, when it is a line leave, whatever slot it carries (DESIGN CHOICE, log 44). -/
def execLineLeaveNotice (s : State) : Result :=
  match s.supply.notices with
  | .lineLeave _ _ _ _ :: rest => .next (lineDrops (dropSupplyNotice rest s))
  | _ => .next s

/-- POLE_CHANGE_NOTICE (R124): the oldest notice, when it is a pole change, whatever slot it carries (DESIGN CHOICE,
log 44). -/
def execPoleChangeNotice (s : State) : Result :=
  match s.supply.notices with
  | .poleChange _ v :: rest => .next (takePoleChange v (dropSupplyNotice rest s))
  | _ => .next s

/-! ### Timers (7.2, 7.4) -/

/-- The resume delay's expiry (R120). -/
def resumeDelayEnds (s : State) : State :=
  if (globals s.tables).autoResume then enterResuming s else enterHeld s

/-- RESUME_DELAY_EXPIRY (R120). The timer runs in BREAK only. -/
def execResumeDelayExpiry (s : State) : Result := onExpiry s.supply.resumeDelay resumeDelayEnds s

/-- The long-break timer's expiry (R121). -/
def longBreakEnds (s : State) : State :=
  let s1 := raise .longBreak (s.setSupply { s.supply with longBreak := none })
  if poleDown s1 then enterOffWire s1 else s1

/-- LONG_BREAK_EXPIRY (R121). The timer runs in BREAK only. -/
def execLongBreakExpiry (s : State) : Result := onExpiry s.supply.longBreak longBreakEnds s

/-- The budget timer's expiry (R130): it restarts, and an allocation is made. -/
def budgetTick (s : State) : State :=
  allocate true (s.setSupply { s.supply with budget := s.startTimer Config.budgetMs })

/-- BUDGET_TIMER_EXPIRY (R130). -/
def execBudgetTimerExpiry (s : State) : Result := onExpiry s.supply.budget budgetTick s

end Sys2Proof.Machine
end

