-- ==== Sys2Proof/Machine/Composer.lean ====
section
/-! DEFINITION. The output composer (chapter 8): marks, F requests, the fill, command frames and their schedule, and
PUBLICATION_TAKE, COMPOSER_CLIMATE_NOTICE, FRAME_PERIOD_EXPIRY and SPACING_EXPIRY. -/

namespace Sys2Proof.Machine

/-! ### The fill (8.3) -/

/-- The greatest v of 0..top that draws at most G (R142), by descent from top. -/
def greatestFit (o : OutputCfg) (budget : Nat) : Nat → Nat
  | 0 => 0
  | v + 1 => if o.power (v + 1) ≤ budget then v + 1 else greatestFit o budget v

/-- A demanded value fitted to a budget G (R142); an output of rated power 0 takes its demanded value. -/
def OutputCfg.fit (o : OutputCfg) (demanded budget : Nat) : Nat :=
  if o.composerRated = 0 then demanded
  else match o.kind with
    | .staged _ => greatestFit o budget demanded
    | .proportional => min demanded (budget * 1000 / o.composerRated)
    | .switched => if demanded ≠ 0 ∧ o.composerRated ≤ budget then 1 else 0

/-- The smallest v of 0..n with v × 1000 ≥ p × n (R143). -/
def stageFor (p n : Nat) : Nat := (p * n + 999) / 1000

/-- A per mille value carried onto an output's kind (R143). -/
def perMilleDemand (kind : OutputKind) (p : Nat) : Nat :=
  match kind with
  | .proportional => p
  | .staged n => stageFor p n
  | .switched => if p = 0 then 0 else 1

/-- Outputs filled one after the other from a budget, each leaving the rest to the next (R142). -/
def fillChain (t : Tables) (budget : Nat) : List (Nat × Nat) → List (Nat × Nat)
  | [] => []
  | (k, demanded) :: rest =>
    let v := (outputCfg t k).fit demanded budget
    (k, v) :: fillChain t (budget - (outputCfg t k).power v) rest

/-- An output in a source's fill with its demanded value; nothing when there is no such output or it is FAILED or forced. -/
def fillItem (s : State) (out : Option Nat) (demand : OutputKind → Nat) : List (Nat × Nat) :=
  match out with
  | some k => if usable s.composer.outputs k then [(k, demand (outputCfg s.tables k).kind)] else []
  | none => []

/-- The conditioning function a zone demands (R142). -/
def demandedFunction (s : State) (z : Nat) : Option OutputFn :=
  let d := (s.zone z).demand
  if 0 < d then some .heat
  else if d = 0 ∧ 0 < (zoneShare s z).storageGrant then some .heat
  else if d < 0 then some .cool
  else none

/-- Conditioning outputs in ascending fill rank, ties by ascending index (R142). -/
def byRank (t : Tables) (ks : List Nat) : List Nat :=
  (List.range 16).flatMap fun r => ks.filter fun k => (outputCfg t k).fillRank == r

/-- The conditioning outputs of a zone's fill in their order, each demanded in full (R142, R143). -/
def conditioningItems (s : State) (z : Nat) : List (Nat × Nat) :=
  match demandedFunction s z with
  | some fn =>
    (byRank s.tables ((conditioningOutputs s.tables z fn).filter (usable s.composer.outputs))).map
      fun k => (k, (outputCfg s.tables k).kind.full)
  | none => []

/-- A zone's fill: blower, damper, conditioning outputs (R142). -/
def fillZone (s : State) (z : Nat) : List (Nat × Nat) :=
  if (zoneCfg s.tables z).valid then
    fillChain s.tables ((zoneShare s z).grant + (zoneShare s z).storageGrant)
      (fillItem s (zoneBlowerOutput s.tables z) (fun kind => perMilleDemand kind (s.zone z).blower)
        ++ fillItem s (zoneDamperOutput s.tables z) (fun kind => perMilleDemand kind (s.zone z).damper)
        ++ conditioningItems s z)
  else []

/-- A door's fill: curtain fan, curtain heat (R142). -/
def fillDoor (s : State) (d : Nat) : List (Nat × Nat) :=
  if (doorCfg s.tables d).valid then
    fillChain s.tables (s.composer.copy.doors.getD d {}).grant
      (fillItem s (curtainFanOutput s.tables d) (fun kind => curtainFanDemand kind (s.door d).fan)
        ++ fillItem s (curtainHeatOutput s.tables d) (fun kind => curtainHeatDemand kind (s.door d).stage))
  else []

/-- A screen channel's fill: its heater (R142). -/
def fillScreen (s : State) (c : Nat) : List (Nat × Nat) :=
  if (screenCfg s.tables c).valid then
    fillChain s.tables (s.composer.copy.screens.getD c {}).grant
      (fillItem s (screenHeaterOutput s.tables c) fun kind => screenHeatDemand kind (s.screen c).effectiveLevel)
  else []

/-- The values every source gives its outputs. -/
def sourceValues (s : State) : List (Nat × Nat) :=
  (List.range 8).flatMap (fillZone s) ++ (List.range 6).flatMap (fillDoor s) ++ (List.range 2).flatMap (fillScreen s)

/-- Output k's F grant in the copy of the last publication. -/
def fGrant (s : State) (k : Nat) : Nat := (s.composer.copy.outputs.getD k {}).grant

/-- A conditioning output while the copy holds BREAK or HELD: its value is 0, forced or not (R144). -/
def heldOff (s : State) (k : Nat) : Bool := s.composer.copy.supply.cut && (outputCfg s.tables k).conditioning

/-- The value of a forced output: 0 when FAILED or held off, else the forced value fitted to its F grant (R138, R142, R144). -/
def forcedValue (s : State) (k forced : Nat) : Nat :=
  if (s.output k).failed || heldOff s k then 0 else (outputCfg s.tables k).fit forced (fGrant s k)

/-- The value of an output at a fill (R137, R138, R142 to R144). -/
def filledValue (s : State) (values : List (Nat × Nat)) (k : Nat) : Nat :=
  if (outputCfg s.tables k).valid then
    match (s.output k).forced with
    | some v => forcedValue s k v
    | none =>
      if (s.output k).failed || heldOff s k || s.composer.climate == .standby then 0
      else ((values.find? fun x => x.1 == k).map (·.2)).getD 0
  else 0

/-- The F request of an output holding a forced value (R140). -/
def fRequestOf (s : State) (k : Nat) (forced : Option Nat) : Nat :=
  match forced with
  | some v => if (s.output k).failed || heldOff s k then 0 else (outputCfg s.tables k).power v
  | none => 0

/-- Every output's live state replaced by what `f` makes of it. -/
def mapOutputs (f : Nat → OutputLive → OutputLive) (s : State) : State :=
  s.setComposer { s.composer with outputs := s.composer.outputs.mapIdx f }

/-- Whether output k's fault slot reports a fault (R138). -/
def faultReported (s : State) (k : Nat) : Bool :=
  let o := outputCfg s.tables k
  let v := s.read o.faultSlot
  o.valid && v.2 == .good && decide (v.1 ≠ 0)

/-- The FAILED marks read anew (R138), OUTPUT_FAULT set when an output passes to FAILED. -/
def readMarks (s : State) : State :=
  raiseWhen ((List.range 48).any fun k => faultReported s k && !(s.output k).failed) .outputFault
    (mapOutputs (fun k l => { l with failed := faultReported s k }) s)

/-- The F requests of the forced outputs formed (R140). -/
def formFRequests (s : State) : State :=
  mapOutputs (fun k l => { l with fRequest := fRequestOf s k l.forced }) s

/-- Every source and every forced output filled, the values replaced together (R141 to R144). -/
def fillAll (s : State) : State :=
  let values := sourceValues s
  mapOutputs (fun k l => { l with value := filledValue s values k }) s

/-- The storage holds of the valid zones with a storage grant above 0 restarted; none starts in STANDBY (R70). From here on
every zone's shares are read from this publication (R100, log 29). -/
def restartHolds (p : Publication) (s : State) : State :=
  s.setRegulator { s.regulator with
    zones := s.regulator.zones.mapIdx fun z l =>
      { l with
        hold :=
          if (zoneCfg s.tables z).valid && s.regulator.climate == .active
              && decide (0 < (p.zones.getD z {}).storageGrant) then s.startTimer Config.storageHoldMs
          else l.hold
        unpublished := false } }

/-! ### Building a command frame (8.4) -/

/-- Error state as a coded value (R146, R179). -/
def ErrorState.code : ErrorState → Nat
  | .active => 0
  | .passive => 1
  | .busOff => 2

/-- Short class as a coded value (R146, R179). -/
def ShortClass.code : ShortClass → Nat
  | .none => 0
  | .f => 1
  | .p0 => 2
  | .p1 => 3
  | .p2 => 4
  | .p3 => 5

/-- T of the valid CAB zone; 0 when there is none (R79, R146). -/
def cabTemp (s : State) : Int :=
  match firstNamed 8 fun z => validOfClass s.tables z .cab with
  | some z => (s.zone z).temp
  | none => 0

/-- A STATUS item (R146). -/
def statusItem (s : State) (item : Nat) : Int :=
  match item with
  | 0 => s.regulator.climate.code
  | 1 => s.composer.copy.supply.code
  | 2 => s.composer.copy.ceiling
  | 3 => s.overrides.entries.length
  | 4 => match s.overrides.entries with
    | e :: _ => e.preset
    | [] => 255
  | 5 => (s.screen 0).effectiveLevel
  | 6 => (s.screen 1).effectiveLevel
  | 7 => s.composer.copy.shortClass.code
  | 8 => cabTemp s
  | 9 => s.bp.err.code
  | 10 => s.fp.err.code
  | _ => 0

/-- Whether a placement's value is signed (R145): SLOT values and cab T are. -/
def Placement.signed (p : Placement) : Bool :=
  match p.kind with
  | .slot => true
  | .status => p.index == 8
  | .output | .nothing => false

/-- The value a placement reads (R145). -/
def placementValue (s : State) (p : Placement) : Int :=
  match p.kind with
  | .output => if p.index < 48 then (s.output p.index).value else 0
  | .slot => if p.index < 96 then (s.read (some p.index)).1 else 0
  | .status => statusItem s p.index
  | .nothing => 0

/-- A value saturated to a placement's width (R145). -/
def Placement.saturate (p : Placement) (v : Int) : Int :=
  match p.wide, p.signed with
  | false, false => clampInt 0 255 v
  | false, true => clampInt (-128) 127 v
  | true, false => clampInt 0 65535 v
  | true, true => clampInt (-32768) 32767 v

/-- The bytes a placement writes: shifted, saturated, in its byte order (R145). -/
def placementBytes (s : State) (p : Placement) : List Byte :=
  let v := p.saturate (floorDiv (placementValue s p) (2 ^ p.shift))
  if p.wide then (if p.highFirst then (le16 v).reverse else le16 v) else [BitVec.ofInt 8 v]

/-- Bytes written into a frame from a start byte on; nothing where they would reach past its length (R145). -/
def writeBytes (content : List Byte) (start : Nat) (bytes : List Byte) : List Byte :=
  if start + bytes.length ≤ content.length then
    content.take start ++ bytes ++ content.drop (start + bytes.length)
  else content

/-- The content of command frame n as built now (R145). -/
def buildContent (s : State) (n : Nat) : List Byte :=
  let c := frameCfg s.tables n
  c.placements.foldl (fun content p => writeBytes content p.startByte (placementBytes s p))
    (List.replicate c.length c.fillByte)

/-- Command frame n as built now. -/
def builtFrame (s : State) (n : Nat) : QueuedFrame :=
  { frame := composedFrame (frameCfg s.tables n).ident (buildContent s n), origin := .commandFrame n }

/-! ### Scheduling (8.4.4) -/

/-- A frame with yield set is held while the climate state is STANDBY (R147, R148). -/
def yieldHeld (s : State) (n : Nat) : Bool :=
  (frameCfg s.tables n).yields && s.composer.climate == .standby

/-- Command frame n built and put (R150): an ACCEPTED put becomes the last put. -/
def putCommandFrame (n : Nat) (s : State) : State :=
  let c := frameCfg s.tables n
  let outcome := s.putOutcome c.port c.cls (.commandFrame n)
  let s1 := putFrame c.port c.cls (builtFrame s n) s
  s1.setSchedule n { s1.schedule n with
    lastPut := if outcome = .accepted then some s1.now else (s1.schedule n).lastPut }

/-- The content differs from the last sent content (R148). -/
def contentChanged (s : State) (n : Nat) : Bool := (s.schedule n).lastSent != some (buildContent s n)

/-- The end of the minimum spacing after the last put, when it has not come yet (R148). -/
def spacingEnd (s : State) (n : Nat) : Option Nat :=
  match (s.schedule n).lastPut with
  | some last => if s.now < last + 10 * (frameCfg s.tables n).spacing then
      some (last + 10 * (frameCfg s.tables n).spacing) else none
  | none => none

/-- The send-on-change test of command frame n (R148). -/
def changeTest (s : State) (n : Nat) : State :=
  let c := frameCfg s.tables n
  if c.valid && c.sendOnChange && !yieldHeld s n && contentChanged s n then
    match spacingEnd s n with
    | none => putCommandFrame n s
    | some e => s.setSchedule n { s.schedule n with
        spacing := match (s.schedule n).spacing with
          | some t => some t
          | none => some e }
  else s

/-- The send-on-change tests of every command frame, in ascending index (R141, stage 6; log 13). -/
def changeTests (s : State) : State := (List.range 24).foldl changeTest s

/-- A publication taken (R141). -/
def takePublication (p : Publication) (rest : List Publication) (s : State) : State :=
  changeTests (fillAll (formFRequests (readMarks (restartHolds p
    (s.setComposer { s.composer with copy := p, publications := rest })))))

/-- PUBLICATION_TAKE (R141): the oldest publication. -/
def execPublicationTake (s : State) : Result :=
  match s.composer.publications with
  | p :: rest => .next (takePublication p rest s)
  | [] => .next s

/-- The composer takes a climate state notice: at STANDBY every value that is not forced becomes 0 (R144). -/
def composerTakesClimate (c : Climate) (rest : List Climate) (s : State) : State :=
  s.setComposer { s.composer with
    climate := c
    climateNotices := rest
    outputs := s.composer.outputs.map fun l =>
      if c = .standby ∧ l.forced = none then { l with value := 0 } else l }

/-- COMPOSER_CLIMATE_NOTICE (R144). -/
def execComposerClimateNotice (s : State) : Result :=
  match s.composer.climateNotices with
  | c :: rest => .next (composerTakesClimate c rest s)
  | [] => .next s

/-- A command frame's period timer has expired (R147): a pending period takes effect, the timer restarts. -/
def restartPeriod (n : Nat) (s : State) : State :=
  let l := s.schedule n
  let period := l.pendingPeriod.getD l.period
  s.setSchedule n { l with
    period := period
    pendingPeriod := none
    periodTimer := s.startTimer (10 * period) }

/-- The period expiry of command frame n (R147). -/
def framePeriodEnds (n : Nat) (s : State) : State :=
  let s1 := restartPeriod n s
  if yieldHeld s1 n then s1 else putCommandFrame n s1

/-- FRAME_PERIOD_EXPIRY (R147). -/
def execFramePeriodExpiry (entry : Fin 24) (s : State) : Result :=
  onExpiry (s.schedule entry).periodTimer (framePeriodEnds entry) s

/-- The spacing expiry of command frame n (R148). -/
def spacingEnds (n : Nat) (s : State) : State :=
  let s1 := s.setSchedule n { s.schedule n with spacing := none }
  if !yieldHeld s1 n && contentChanged s1 n then putCommandFrame n s1 else s1

/-- SPACING_EXPIRY (R148). -/
def execSpacingExpiry (entry : Fin 24) (s : State) : Result :=
  onExpiry (s.schedule entry).spacing (spacingEnds entry) s

end Sys2Proof.Machine
end

