-- ==== Sys2Proof/Machine/Overrides.lean ====
section
/-! DEFINITION. The override stack (chapter 9): PUSH, POP, REMOVE, CLEAR, DESK_REJECT, LIFETIME_EXPIRY and
STACK_CLIMATE_NOTICE. -/

namespace Sys2Proof.Machine

/-- What a desk request asks for (9.2). -/
inductive DeskAction where
  | push | pop | remove | clear
  deriving DecidableEq, Repr

/-- The action of a desk hand-off: none at data length 0 or with an action byte other than 1 to 4 (R154). -/
def deskAction (data : List Byte) : Option DeskAction :=
  match data with
  | [] => none
  | a :: _ =>
    match a.toNat with
    | 1 => some .push
    | 2 => some .pop
    | 3 => some .remove
    | 4 => some .clear
    | _ => none

/-- The preset index of a desk hand-off: none when it has no byte 1. -/
def deskPreset (data : List Byte) : Option Nat := data[1]?.map (·.toNat)

/-- The stack's entries without those of preset p. -/
def withoutPreset (entries : List StackEntry) (p : Nat) : List StackEntry := entries.filter fun e => e.preset != p

/-- Whether preset p is in the stack. -/
def inStack (entries : List StackEntry) (p : Nat) : Bool := entries.any fun e => e.preset == p

/-- The lifetime timer a push of preset p starts (R155). -/
def lifetimeTimer (s : State) (p : Nat) : Timer :=
  if (presetCfg s.tables p).lifetime = 0 then none else s.startTimer (1000 * (presetCfg s.tables p).lifetime)

/-- The stack's entries replaced. -/
def setEntries (entries : List StackEntry) (s : State) : State :=
  s.setOverrides { s.overrides with entries := entries }

/-- A rejected desk request (R154). -/
def rejectDesk (s : State) : State := raise .deskReject s

/-- A PUSH carried out (R155): the entry goes on top; a full stack without it loses its bottom entry. -/
def pushPreset (p : Nat) (s : State) : State :=
  let others := withoutPreset s.overrides.entries p
  raiseWhen (decide (Config.stackDepth ≤ others.length)) .overrideDiscard
    (setEntries ({ preset := p, lifetime := lifetimeTimer s p } :: others.take (Config.stackDepth - 1)) s)

/-- A PUSH of preset p (R155). -/
def doPush (p : Nat) (s : State) : State :=
  if p < 8 ∧ (presetCfg s.tables p).valid = true then pushPreset p s else rejectDesk s

/-- A POP (R156). -/
def doPop (s : State) : State :=
  match s.overrides.entries with
  | _ :: rest => setEntries rest s
  | [] => rejectDesk s

/-- A REMOVE of preset p (R156). -/
def doRemove (p : Nat) (s : State) : State :=
  if inStack s.overrides.entries p then setEntries (withoutPreset s.overrides.entries p) s else rejectDesk s

/-- A CLEAR (R156). -/
def doClear (s : State) : State := setEntries [] s

/-- A desk hand-off dealt with (R154 to R156); in STANDBY every one is rejected. -/
def dealDesk (data : List Byte) (s : State) : State :=
  match s.overrides.climate with
  | .standby => rejectDesk s
  | .active =>
    match deskAction data, deskPreset data with
    | some .push, some p => doPush p s
    | some .remove, some p => doRemove p s
    | some .pop, _ => doPop s
    | some .clear, _ => doClear s
    | some .push, none => rejectDesk s
    | some .remove, none => rejectDesk s
    | none, _ => rejectDesk s

/-- Whether a desk hand-off is rejected under R154 itself: STANDBY, length 0, an unknown action, or a PUSH or REMOVE without
its preset byte. -/
def deskRefused (s : State) (data : List Byte) : Bool :=
  s.overrides.climate == .standby ||
    (match deskAction data with
      | none => true
      | some .push => (deskPreset data).isNone
      | some .remove => (deskPreset data).isNone
      | some .pop => false
      | some .clear => false)

/-- The oldest desk hand-off taken when it is the one the command names, and dealt with. -/
def takeDesk (isMine : List Byte → Bool) (s : State) : Result :=
  match s.overrides.handOffs with
  | data :: rest =>
    if isMine data then .next (dealDesk data (s.setOverrides { s.overrides with handOffs := rest })) else .next s
  | [] => .next s

/-- PUSH (R155). -/
def execPush (s : State) : Result := takeDesk (fun d => deskAction d == some .push) s

/-- POP (R156). -/
def execPop (s : State) : Result := takeDesk (fun d => deskAction d == some .pop) s

/-- REMOVE (R156). -/
def execRemove (s : State) : Result := takeDesk (fun d => deskAction d == some .remove) s

/-- CLEAR (R156). -/
def execClear (s : State) : Result := takeDesk (fun d => deskAction d == some .clear) s

/-- DESK_REJECT (R154). -/
def execDeskReject (s : State) : Result := takeDesk (deskRefused s) s

/-- The lifetime timer of preset p's entry; none when there is no such entry or it has no timer. -/
def entryTimer (s : State) (p : Nat) : Timer :=
  match s.overrides.entries.find? fun e => e.preset == p with
  | some e => e.lifetime
  | none => none

/-- The entry of preset p lapses (R157). -/
def lapse (p : Nat) (s : State) : State := setEntries (withoutPreset s.overrides.entries p) s

/-- LIFETIME_EXPIRY (R157). -/
def execLifetimeExpiry (preset : Fin 8) (s : State) : Result := onExpiry (entryTimer s preset) (lapse preset) s

/-- The override stack takes a climate state notice; at STANDBY it is emptied, at ACTIVE it stays as it is (R159). -/
def stackTakesClimate (c : Climate) (rest : List Climate) (s : State) : State :=
  s.setOverrides { s.overrides with
    climate := c
    climateNotices := rest
    entries := match c with
      | .standby => []
      | .active => s.overrides.entries }

/-- STACK_CLIMATE_NOTICE (R159). -/
def execStackClimateNotice (s : State) : Result :=
  match s.overrides.climateNotices with
  | c :: rest => .next (stackTakesClimate c rest s)
  | [] => .next s

end Sys2Proof.Machine
end

