-- ==== Sys2Proof/Machine/Activation.lean ====
section
/-! DEFINITION. What an ACTIVATE does (R168, R169): the merged table, its validation, and what each block takes from it
(R54, R61, R80, R99, R114, R151, R160). -/

namespace Sys2Proof.Machine

/-! ### Merged table and validation (R168, R178) -/

/-- Record k of a load buffer whose records have `size` bytes (R178). -/
def bufferRecord (buffer : List Byte) (size k : Nat) : Rec := (buffer.drop (k * size)).take size

/-- A table's records with those of a window replaced by the buffer's (R168, R178). -/
def mergedTable (live : List Rec) (w : LoadWindow) (buffer : List Byte) : List Rec :=
  live.mapIdx fun i r =>
    if w.first ≤ i ∧ i < w.first + w.count then bufferRecord buffer w.table.size (i - w.first) else r

/-- Total bytes of a window (R165). -/
def LoadWindow.total (w : LoadWindow) : Nat := w.count * w.table.size

/-- A record index lies in the window. -/
def LoadWindow.holds (w : LoadWindow) (i : Nat) : Bool := decide (w.first ≤ i ∧ i < w.first + w.count)

/-- A slot byte is 0..95 or absent (R168, R176). -/
def slotOrAbsent (r : Rec) (i : Nat) : Bool := decide (u8 r i < 96 ∨ u8 r i = 255)

/-- An output byte is 0..47 or absent (R168, R176). -/
def outputOrAbsent (r : Rec) (i : Nat) : Bool := decide (u8 r i < 48 ∨ u8 r i = 255)

/-- A zone record is valid and of class CAB. -/
def validCab (r : Rec) : Bool := validField r && u8 r 1 == 1

/-- The validation of a merged table (R168). -/
def validTable : TableId → List Rec → Bool
  | .frameHandling, rs => rs.all fun r => !bit r 0 0 || decide (u8 r 7 ≤ 16 ∧ u8 r 6 + u8 r 7 ≤ 192)
  | .bindings, rs => rs.all fun r => decide (u8 r 0 < 96)
  | .slots, rs => rs.all fun r => slotOrAbsent r 10
  | .zones, rs =>
    decide ((rs.filter validCab).length ≤ 1)
      && rs.all fun r => !validField r
        || (slotOrAbsent r 3 && slotOrAbsent r 5 && slotOrAbsent r 7 && slotOrAbsent r 9 && slotOrAbsent r 11
          && outputOrAbsent r 12 && outputOrAbsent r 13)
  | .outdoorCurve, rs =>
    (List.range 7).all fun i => decide (s16 (rs.getD 0 []) (4 * i) < s16 (rs.getD 0 []) (4 * (i + 1)))
  | .doors, rs => rs.all fun r => !validField r
      || (decide (u8 r 1 < 96) && slotOrAbsent r 2 && outputOrAbsent r 4 && outputOrAbsent r 5)
  | .screens, rs => rs.all fun r => !validField r
      || (slotOrAbsent r 1 && slotOrAbsent r 2 && slotOrAbsent r 3 && outputOrAbsent r 4)
  | .depression, rs =>
    ((List.range 10).all fun i => decide (u16 (rs.getD 0 []) (2 * (i + 1)) ≤ u16 (rs.getD 0 []) (2 * i)))
      && u16 (rs.getD 0 []) 20 == 0
  | .outputs, rs => rs.all fun r => !validField r || slotOrAbsent r 8
  | .globals, rs =>
    let r := rs.getD 0 []
    decide (u16 r 0 % 4 = 0 ∧ u16 r 0 ≤ 0x7FC)
      && (List.range 7).all fun i => slotOrAbsent r (2 + i)
  | .classMap, _ => true
  | .commandFrames, _ => true
  | .presets, _ => true

/-! ### What the blocks take (R169) -/

/-- Slots of the window set to NEVER (R54), with a leave notice for a line voltage slot that was FRESH (R50). -/
def activateSlots (w : LoadWindow) (s : State) : State :=
  let cleared := s.setSlots (s.slots.mapIdx fun i l => if w.holds i then {} else l)
  match (globals s.tables).lineSlot with
  | some i => leaveNotice (w.holds i && (s.slot i).state == .fresh) i cleared
  | none => cleared

/-- The climate state derived anew from the vehicle mode slot's effective value (R61). -/
def rederiveClimate (s : State) : State := deriveClimate (s.read (globals s.tables).modeSlot).1 s

/-- A zone of an activated window (R80); until the next publication is taken, doors read no request and no grant of it
(R100, log 29). -/
def activatedZone (s : State) (z : Nat) (l : ZoneLive) : ZoneLive :=
  { l.toStandby with
    unpublished := true
    setpoint := 0
    temp := 0
    tier := .none
    profile := profileFor s.tables z s.regulator.mode 0
    step := if (zoneCfg s.tables z).valid then s.startTimer Config.zoneStepMs else none }

/-- A door of an activated window (R99). -/
def activatedDoor (s : State) (d : Nat) (l : DoorLive) : DoorLive :=
  if (doorCfg s.tables d).valid then
    { l.cleared with
      period := s.startTimer Config.doorPeriodMs
      signalLost := match s.doors.climate with
        | .active => s.startTimer (1000 * (globals s.tables).signalLostTime)
        | .standby => none }
  else { l.cleared with period := none }

/-- A screen channel of an activated window (R114). -/
def activatedScreen (s : State) (c : Nat) : ScreenLive :=
  { timer := if (screenCfg s.tables c).valid then s.startTimer Config.screenEvalMs else none }

/-- The schedule of a command frame of an activated window (R151). -/
def activatedSchedule (s : State) (n : Nat) : Schedule :=
  { period := (frameCfg s.tables n).period
    periodTimer := if (frameCfg s.tables n).valid then s.startTimer (10 * (frameCfg s.tables n).period) else none }

/-- The stack pruned of the window's presets that are no longer valid (R160). -/
def prunedStack (t : Tables) (w : LoadWindow) (entries : List StackEntry) : List StackEntry :=
  entries.filter fun e => !(w.holds e.preset) || (presetCfg t e.preset).valid

/-- What each block takes from an activation, the live table being the new one (R169). -/
def takeActivation (w : LoadWindow) (s : State) : State :=
  match w.table with
  | .slots =>
    let s1 := activateSlots w s
    match (globals s.tables).modeSlot with
    | some i => if w.holds i then rederiveClimate s1 else s1
    | none => s1
  | .zones =>
    s.setRegulator { s.regulator with
      zones := s.regulator.zones.mapIdx fun z l => if w.holds z then activatedZone s z l else l }
  | .doors =>
    s.setDoors { s.doors with
      doors := s.doors.doors.mapIdx fun d l => if w.holds d then activatedDoor s d l else l }
  | .screens =>
    s.setScreens { s.screens with
      channels := s.screens.channels.mapIdx fun c l => if w.holds c then activatedScreen s c else l }
  | .outputs =>
    s.setComposer { s.composer with
      outputs := s.composer.outputs.mapIdx fun k l => if w.holds k then {} else l }
  | .commandFrames =>
    s.setComposer { s.composer with
      schedules := s.composer.schedules.mapIdx fun n l => if w.holds n then activatedSchedule s n else l }
  | .presets =>
    s.setOverrides { s.overrides with entries := prunedStack s.tables w s.overrides.entries }
  | .globals => rederiveClimate s
  | .frameHandling => s
  | .classMap => s
  | .bindings => s
  | .outdoorCurve => s
  | .depression => s

/-- The window's live records replaced, then taken by the blocks (R168, R169). -/
def goLive (w : LoadWindow) (merged : List Rec) (s : State) : State :=
  takeActivation w (s.setTables (s.tables.set w.table merged))

end Sys2Proof.Machine
end

