-- ==== Sys2Proof/Machine/Start.lean ====
section
/-! DEFINITION. Start (R15, R33, R53, R82, R101, R115, R136, R152, R161, R175), the image write's end (R174), and the
pending switch (R171): POWER_ON, RESET_PIN, INIT_END and SWITCH_TIMER_EXPIRY. -/

namespace Sys2Proof.Machine

/-! ### The image (10.6, R174) -/

/-- Whether a group is in a STORE mask. -/
def inMask (mask : BitVec 7) (g : Nat) : Bool := mask.getLsbD g

/-- The image after every step of a write verified (R174). -/
def imageWritten (im : Image) (mask : BitVec 7) (live : Tables) : Image :=
  { signed := true
    codes := (List.range 7).map fun g => if inMask mask g then 1 else im.codes.getD g 0
    stored := Tables.build fun k => if inMask mask k.group.number then live.get k else im.stored.get k }

/-- The accept code of masked group g when a write ended within a step, `done` saying whether that step had already written
it (R174, log 6). -/
def brokenCode (step : StoreStep) (done : Bool) (old : BitVec 2) : BitVec 2 :=
  match step with
  | .eraseSignature => old
  | .clearCodes => if done then 0 else old
  | .writeTables => 0
  | .setCodes => if done then 1 else 0
  | .writeSignature => 1

/-- The image after a write that ended within a step: no valid signature (R174). The masked groups' tables are the new ones
once the third step has been completed; before, what is stored is loaded under no accept code but the old (log 6). -/
def imageBroken (im : Image) (mask : BitVec 7) (live : Tables) (step : StoreStep) (free : Nat) : Image :=
  { signed := false
    codes := (List.range 7).map fun g =>
      if inMask mask g then brokenCode step (Config.codeWritten free g) (im.codes.getD g 0) else im.codes.getD g 0
    stored := match step with
      | .setCodes | .writeSignature =>
        Tables.build fun k => if inMask mask k.group.number then live.get k else im.stored.get k
      | .eraseSignature | .clearCodes | .writeTables => im.stored }

/-- The step a write had reached, for the n-th free choice (log 6). -/
def reachedStep (free : Nat) : StoreStep :=
  match (Config.reachedStep free).val with
  | 0 => .eraseSignature
  | 1 => .clearCodes
  | 2 => .writeTables
  | 3 => .setCodes
  | _ => .writeSignature

/-- The image as a reset finds it: a write under way leaves it without a valid signature (R174). -/
def imageAtReset (s : State) : Image :=
  match s.mgmt.store with
  | some w => imageBroken s.image w.mask s.tables (reachedStep s.freeIndex) s.freeIndex
  | none => s.image

/-! ### Start (R175) -/

/-- A publication with no request and no grant, at the break allowance (R136, R152), each zone with its loaded record's class
(DESIGN CHOICE, log 18). -/
def startPublication (t : Tables) : Publication :=
  { ceiling := (globals t).breakAllowance
    zones := (List.range 8).map fun z => { cls := (zoneCfg t z).cls } }

/-- Every block at its start values, no flag set yet (R15, R33, R53, R82, R101, R115, R136, R152, R161, 10.1). -/
def startValues (cause : StartCause) (im : Image) (t : Tables) (s : State) : State :=
  { phase := .init
    now := s.now
    freeIndex := s.freeIndex + 1
    tables := t
    image := im
    bp := {}
    fp := {}
    classifier := { lastServed := .fp, mb := BitVec.ofNat 11 (globals t).managementBase }
    binder := []
    slots := List.replicate 96 {}
    regulator := {}
    doors := {}
    screens := {}
    supply := { target := (globals t).breakAllowance, ceiling := (globals t).breakAllowance,
                lastPub := startPublication t }
    composer := { copy := startPublication t,
                  schedules := (List.range 24).map fun n => { period := (frameCfg t n).period } }
    overrides := {}
    mgmt := { cause := cause }
    pending := s.pending }

/-- The part starts (R175): start values, tables from the image, IMAGE_INVALID without a valid signature, then START. -/
def startPart (cause : StartCause) (s : State) : State :=
  let im := imageAtReset s
  raise .start (raiseWhen (!im.signed) .imageInvalid (startValues cause im im.loaded s))

/-- POWER_ON (R175). -/
def execPowerOn (s : State) : Result := .next (startPart .power s)

/-- RESET_PIN (R175). -/
def execResetPin (s : State) : Result := .next (startPart .power s)

/-- A zone at the end of INIT (R82): its profile is selected and its step timer starts when it is valid. -/
def zoneAtInitEnd (s : State) (mode : VehicleMode) (z : Nat) (l : ZoneLive) : ZoneLive :=
  if (zoneCfg s.tables z).valid then
    { selectProfile s.tables mode z l with step := s.startTimer Config.zoneStepMs }
  else l

/-- A door at the end of INIT (R101). -/
def doorAtInitEnd (s : State) (c : Climate) (d : Nat) (l : DoorLive) : DoorLive :=
  if (doorCfg s.tables d).valid then
    { l with
      period := s.startTimer Config.doorPeriodMs
      signalLost := match c with
        | .active => s.startTimer (1000 * (globals s.tables).signalLostTime)
        | .standby => none }
  else l

/-- A screen channel at the end of INIT (R115). -/
def screenAtInitEnd (s : State) (c : Nat) (l : ScreenLive) : ScreenLive :=
  if (screenCfg s.tables c).valid then { l with timer := s.startTimer Config.screenEvalMs } else l

/-- A command frame's schedule at the end of INIT (R152). -/
def scheduleAtInitEnd (s : State) (n : Nat) (l : Schedule) : Schedule :=
  if (frameCfg s.tables n).valid then { l with periodTimer := s.startTimer (10 * l.period) } else l

/-- INIT ends (R16, R82, R101, R115, R136, R152, R175): the ports join, the climate state is derived without a notice and
every block starts in the state it reads, the timers start. -/
def endInit (s : State) : State :=
  let mode := VehicleMode.ofValue (s.read (globals s.tables).modeSlot).1
  let c := mode.climate
  { s with
    phase := .running
    regulator := { s.regulator with
      climate := c, mode := mode, zones := s.regulator.zones.mapIdx (zoneAtInitEnd s mode) }
    doors := { s.doors with climate := c, doors := s.doors.doors.mapIdx (doorAtInitEnd s c) }
    screens := { s.screens with climate := c, channels := s.screens.channels.mapIdx (screenAtInitEnd s) }
    supply := { s.supply with budget := s.startTimer Config.budgetMs }
    composer := { s.composer with
      climate := c, schedules := s.composer.schedules.mapIdx (scheduleAtInitEnd s) }
    overrides := { s.overrides with climate := c } }

/-- INIT_END (R175): it comes once in INIT. -/
def execInitEnd (s : State) : Result :=
  match s.phase with
  | .init => .next (endInit s)
  | .running => .next s

/-! ### The pending switch (R171, R21) -/

/-- The switch carried out: a command reset, or the new MB in force (R171). -/
def carryOut (k : SwitchKind) (s : State) : State :=
  match k with
  | .reset => startPart .command s
  | .newMb =>
    (s.setClassifier { s.classifier with mb := BitVec.ofNat 11 (globals s.tables).managementBase }).setMgmt
      { s.mgmt with switch := none }

/-- The completion of the pending switch's reply (R171). -/
def switchOnReply (s : State) : State :=
  match s.mgmt.switch with
  | some w => carryOut w.kind s
  | none => s

/-- BP has entered BUS_OFF (R171): a pending switch whose 100 ms have passed is carried out at once, another waits for its
timer. -/
def switchOnBusOff (s : State) : State :=
  match s.mgmt.switch with
  | some w =>
    match w.timer with
    | some d =>
      if d ≤ s.now then carryOut w.kind s
      else s.setMgmt { s.mgmt with switch := some { w with replyLost := true } }
    | none => carryOut w.kind s
  | none => s

/-- The 100 ms of a pending switch are over (R171): it is carried out when its reply is lost, and otherwise goes on waiting
for the reply's completion. -/
def switchTimerEnds (s : State) : State :=
  match s.mgmt.switch with
  | some w =>
    if w.replyLost then carryOut w.kind s
    else s.setMgmt { s.mgmt with switch := some { w with timer := none } }
  | none => s

/-- The pending switch's timer. -/
def switchTimer (s : State) : Timer :=
  match s.mgmt.switch with
  | some w => w.timer
  | none => none

/-- SWITCH_TIMER_EXPIRY (R171). -/
def execSwitchTimerExpiry (s : State) : Result := onExpiry (switchTimer s) switchTimerEnds s

end Sys2Proof.Machine
end

