-- ==== Sys2Proof/Machine/Ports.lean ====
section
/-! DEFINITION. The frame ports (chapter 1): FRAME_RECEPTION, RX_ERROR, TRANSMIT_ATTEMPT, ARBITRATION_LOST,
TRANSMIT_COMPLETE, TRANSMIT_ERROR and BUS_OFF_HOLD_EXPIRY. -/

namespace Sys2Proof.Machine

/-- The overrun flag of a port (R2). -/
def overrunFlag : PortId → Flag
  | .bp => .bpOverrun
  | .fp => .fpOverrun

/-- A frame's reception completed on a port that is on the bus: appended whole, or an overrun (R1, R2). -/
def receive (p : PortId) (f : Frame) (s : State) : State :=
  let port := s.port p
  if port.rx.length < Config.rxCapacity then
    s.setPort p { port with
      rx := port.rx ++ [f]
      counters := { port.counters with rxAccepted := satAdd port.counters.rxAccepted 1 } }
  else
    raise (overrunFlag p)
      (s.setPort p { port with counters := { port.counters with overrun := satAdd port.counters.overrun 1 } })

/-- FRAME_RECEPTION (R1, R2). A port off the bus receives nothing (R12, R16). -/
def execFrameReception (port : PortId) (frame : Frame) (s : State) : Result :=
  if frame.wellFormed then .next (if s.onBus port then receive port frame s else s)
  else .refused .illFormedFrame

/-- A reception ended by a bus error (R4). -/
def countRxError (p : PortId) (s : State) : State :=
  let port := s.port p
  s.setPort p { port with counters := { port.counters with rxError := satAdd port.counters.rxError 1 } }

/-- RX_ERROR (R4, R12). -/
def execRxError (port : PortId) (s : State) : Result :=
  .next (if s.onBus port then countRxError port s else s)

/-- The port chooses the frame on offer and begins an attempt with its present content (R7). -/
def beginAttempt (p : PortId) (s : State) : State :=
  let port := s.port p
  s.setPort p { port with offer := match port.offer with
    | some o => some o
    | none => port.choice }

/-- TRANSMIT_ATTEMPT (R7): while an attempt is under way no other begins. -/
def execTransmitAttempt (port : PortId) (s : State) : Result :=
  .next (if s.onBus port then beginAttempt port s else s)

/-- No frame is on offer: the attempt under way has ended. -/
def endAttempt (p : PortId) (s : State) : State := s.setPort p { s.port p with offer := none }

/-- ARBITRATION_LOST (R7). -/
def execArbitrationLost (port : PortId) (s : State) : Result := .next (endAttempt port s)

/-- A port after a completed transmission of the head of queue c (R8, R10). -/
def Port.sent (p : Port) (c : TxClass) : Port :=
  let q := p.setQueue c (p.queue c).tail
  { q with
    offer := none
    tec := p.tec - 1
    err := ErrorState.ofCount (p.tec - 1)
    counters := { p.counters with txSent := satAdd p.counters.txSent 1 } }

/-- The completion reported to the frame's origin with the content the attempt carried (R8): a command frame's last sent
content (R150), a pending switch's reply (R171). -/
def reportCompletion (x : QueuedFrame) (s : State) : State :=
  match x.origin with
  | .commandFrame n => s.setSchedule n { s.schedule n with lastSent := some x.frame.data }
  | .reply true => switchOnReply s
  | .reply false => s
  | .eventReport => s
  | .forwarded => s

/-- TRANSMIT_COMPLETE (R8). -/
def execTransmitComplete (port : PortId) (s : State) : Result :=
  match (s.port port).offer with
  | some o => .next (reportCompletion o.carried (s.setPort port ((s.port port).sent o.cls)))
  | none => .next s

/-- A port after a transmit error that leaves its count below the limit (R9, R10). -/
def Port.txFailed (p : Port) : Port :=
  { p with
    offer := none
    tec := p.tec + Config.txErrorIncrement
    err := ErrorState.ofCount (p.tec + Config.txErrorIncrement)
    counters := { p.counters with txError := satAdd p.counters.txError 1 } }

/-- A port after a transmit error that takes its count to the limit: BUS_OFF (R9, R11). -/
def Port.fellOff (p : Port) (hold : Timer) : Port :=
  { p with
    urgent := []
    control := []
    bulk := []
    offer := none
    tec := Config.txErrorLimit
    err := .busOff
    hold := hold
    counters := { p.counters with
      txError := satAdd p.counters.txError 1
      flushed := satAdd p.counters.flushed (p.urgent.length + p.control.length + p.bulk.length)
      busOffEpisodes := satAdd p.counters.busOffEpisodes 1 } }

/-- A transmit error on a port (R9 to R11); BP's entry to BUS_OFF is told to a pending switch (R171). -/
def transmitFails (p : PortId) (s : State) : State :=
  let port := s.port p
  if port.tec + Config.txErrorIncrement < Config.txErrorLimit then s.setPort p port.txFailed
  else
    let s1 := raise .busOff (s.setPort p (port.fellOff (s.startTimer Config.busOffHoldMs)))
    match p with
    | .bp => switchOnBusOff s1
    | .fp => s1

/-- TRANSMIT_ERROR (R9): it ends an attempt under way. -/
def execTransmitError (port : PortId) (s : State) : Result :=
  match (s.port port).offer with
  | some _ => .next (transmitFails port s)
  | none => .next s

/-- The bus-off hold is over (R13). -/
def rejoin (p : PortId) (s : State) : State :=
  s.setPort p { s.port p with tec := 0, err := .active, hold := none }

/-- BUS_OFF_HOLD_EXPIRY (R13). The timer runs in BUS_OFF only. -/
def execBusOffHoldExpiry (port : PortId) (s : State) : Result :=
  onExpiry (s.port port).hold (rejoin port) s

end Sys2Proof.Machine
end

