-- ==== Sys2Proof/Machine/ReadState.lean ====
section
/-! DEFINITION. The items of READ STATE (R164, R179): three words for each item of each object kind. -/

namespace Sys2Proof.Machine

/-- The three words of an item, before they are put into two bytes each. -/
structure Words where
  w1 : Int := 0
  w2 : Int := 0
  w3 : Int := 0
  deriving DecidableEq, Repr

/-- What an absent value and a stopped timer read as (R164). -/
def absentWord : Int := 0xFFFF

/-- A running timer reads its remaining time in 10 ms units, a stopped one FFFFh (R164). -/
def timerWord (s : State) (t : Timer) : Int :=
  match t.left s.now with
  | some ms => (ms / 10 : Nat)
  | none => absentWord

/-- An absent value reads FFFFh (R164). -/
def natWord (x : Option Nat) : Int :=
  match x with
  | some v => v
  | none => absentWord

/-- A row with a presence word (R179). -/
def presenceWords (x : Option Int) : Words :=
  match x with
  | some v => { w1 := 1, w2 := v }
  | none => { w1 := 0, w2 := 0 }

/-- A Bool as a coded value. -/
def boolWord (b : Bool) : Int := if b then 1 else 0

def LoadState.code : LoadState → Nat
  | .empty => 0
  | .loading => 1
  | .complete => 2
  | .failed => 3

def FailureCause.code : FailureCause → Nat
  | .none => 0
  | .sequence => 1
  | .timeout => 2

def SwitchKind.code : SwitchKind → Nat
  | .reset => 1
  | .newMb => 2

def TxClass.code : TxClass → Nat
  | .urgent => 0
  | .control => 1
  | .bulk => 2

def SlotState.code : SlotState → Nat
  | .never => 0
  | .fresh => 1
  | .stale => 2
  | .implausible => 3

def Quality.code : Quality → Nat
  | .good => 0
  | .degraded => 1
  | .none => 2

def ZoneCondition.code : ZoneCondition → Nat
  | .idle => 0
  | .regulating => 1
  | .fallback => 2

def OverrideMode.code : OverrideMode → Nat
  | .normal => 0
  | .ventOnly => 1
  | .off => 2

def VehicleMode.code : VehicleMode → Nat
  | .parked => 0
  | .prepare => 1
  | .service => 2
  | .layover => 3
  | .wash => 4

def DoorState.code : DoorState → Nat
  | .idle => 0
  | .ready => 1
  | .opened => 2
  | .runOn => 3
  | .layover => 4
  | .fault => 5

def FanLevel.code : FanLevel → Nat
  | .off => 0
  | .low => 1
  | .on => 2

def ScreenBasis.code : ScreenBasis → Nat
  | .margin => 0
  | .iceTest => 1
  | .glassLost => 2
  | .airLost => 3

def ZoneClass.shareCode : ZoneClass → Nat
  | .cab => 0
  | .saloon => 1

/-- What the image header's signature reads as (10.6; log 5). -/
def signatureWord (im : Image) : Nat :=
  if im.signed then 0x5A3C
  else if Config.erasedSignature.val < 0x5A3C then Config.erasedSignature.val
  else Config.erasedSignature.val + 1

/-- The accept codes in one word, bits 2g and 2g + 1 for group g (R179). -/
def codesWord (codes : List (BitVec 2)) : Nat :=
  ((List.range 7).map fun g => (codes.getD g 0).toNat * 4 ^ g).sum

/-- Kind 0, management unit. While an image write runs, item 12 shows the header as it was before (log 40). -/
def managementItem (s : State) (item : Nat) : Option Words :=
  let m := s.mgmt
  match item with
  | 0 => some { w1 := m.load.code }
  | 1 => some (match m.window with
    | some w => { w1 := w.table.number, w2 := w.first, w3 := w.count }
    | none => { w1 := absentWord, w2 := absentWord, w3 := absentWord })
  | 2 => some { w1 := m.buffer.length, w2 := natWord (m.window.map LoadWindow.total) }
  | 3 => some { w1 := m.expected }
  | 4 => some { w1 := timerWord s m.timer }
  | 5 => some { w1 := m.failure.code }
  | 6 => some { w1 := m.stray }
  | 7 => some (match m.store with
    | some r => { w1 := 1, w2 := r.mask.toNat }
    | none => {})
  | 8 => some (match m.switch with
    | some w => { w1 := w.kind.code, w2 := timerWord s w.timer }
    | none => { w2 := absentWord })
  | 9 => some { w1 := (m.flags.toNat % 65536 : Nat), w2 := (m.flags.toNat / 65536 : Nat) }
  | 10 => some { w1 := (m.enables.toNat % 65536 : Nat), w2 := (m.enables.toNat / 65536 : Nat) }
  | 11 => some { w1 := m.cause.code }
  | 12 => some { w1 := signatureWord s.image, w2 := codesWord s.image.codes }
  | _ => none

/-- The frame on offer's words (R179, kind 1 item 7). -/
def offerWords (o : Option Offer) : Words :=
  match o with
  | none => { w1 := absentWord }
  | some o =>
    match o.carried.origin with
    | .forwarded => { w1 := o.cls.code, w2 := 0 }
    | .reply _ => { w1 := o.cls.code, w2 := 1 }
    | .eventReport => { w1 := o.cls.code, w2 := 2 }
    | .commandFrame n => { w1 := o.cls.code, w2 := 3, w3 := n }

/-- Kind 1, port. -/
def portItem (s : State) (p : Port) (item : Nat) : Option Words :=
  match item with
  | 0 => some { w1 := p.rx.length }
  | 1 => some { w1 := p.urgent.length }
  | 2 => some { w1 := p.control.length }
  | 3 => some { w1 := p.bulk.length }
  | 4 => some { w1 := p.err.code }
  | 5 => some { w1 := p.tec }
  | 6 => some { w1 := timerWord s p.hold }
  | 7 => some (offerWords p.offer)
  | 8 => some { w1 := p.counters.rxAccepted }
  | 9 => some { w1 := p.counters.overrun }
  | 10 => some { w1 := p.counters.rxError }
  | 11 => some { w1 := p.counters.lengthShort }
  | 12 => some { w1 := p.counters.txSent }
  | 13 => some { w1 := p.counters.txError }
  | 14 => some { w1 := p.counters.txDrop }
  | 15 => some { w1 := p.counters.flushed }
  | 16 => some { w1 := p.counters.busOffEpisodes }
  | _ => none

/-- Kind 2, slot. -/
def slotItem (s : State) (i item : Nat) : Option Words :=
  let l := s.slot i
  match item with
  | 0 => some { w1 := l.state.code }
  | 1 => some (presenceWords l.lastWritten)
  | 2 => some (presenceWords l.lastGood)
  | 3 => some { w1 := timerWord s l.timer }
  | 4 => some (presenceWords l.reference)
  | 5 => some { w1 := l.implausible }
  | 6 => some { w1 := (s.read (some i)).1 }
  | 7 => some { w1 := (s.read (some i)).2.code }
  | _ => none

/-- Kind 3, zone. -/
def zoneItem (s : State) (z item : Nat) : Option Words :=
  let l := s.zone z
  match item with
  | 0 => some { w1 := l.condition.code }
  | 1 => some { w1 := l.profile }
  | 2 => some { w1 := l.setpoint }
  | 3 => some { w1 := l.temp }
  | 4 => some { w1 := l.tier.code }
  | 5 => some { w1 := l.mode.code }
  | 6 => some { w1 := l.integral }
  | 7 => some { w1 := l.rawDemand }
  | 8 => some { w1 := l.demand }
  | 9 => some { w1 := l.blower }
  | 10 => some { w1 := l.damper }
  | 11 => some { w1 := l.request }
  | 12 => some { w1 := l.storageRequest }
  | 13 => some { w1 := timerWord s l.hold }
  | 14 => some { w1 := timerWord s l.step }
  | 15 => some { w1 := s.regulator.climate.code }
  | 16 => some { w1 := s.regulator.mode.code }
  | _ => none

/-- Kind 4, door. -/
def doorItem (s : State) (d item : Nat) : Option Words :=
  let l := s.door d
  match item with
  | 0 => some { w1 := l.state.code }
  | 1 => some { w1 := l.stage }
  | 2 => some { w1 := l.heldStage }
  | 3 => some { w1 := l.fan.code }
  | 4 => some { w1 := l.debt }
  | 5 => some { w1 := l.ff }
  | 6 => some { w1 := l.request }
  | 7 => some { w1 := timerWord s l.period }
  | 8 => some { w1 := timerWord s l.openTimer }
  | 9 => some { w1 := timerWord s l.runOn }
  | 10 => some { w1 := timerWord s l.signalLost }
  | _ => none

/-- Kind 5, screen channel. -/
def screenItem (s : State) (c item : Nat) : Option Words :=
  let l := s.screen c
  match item with
  | 0 => some { w1 := l.condition.level }
  | 1 => some { w1 := l.basis.code }
  | 2 => some { w1 := l.conditionLevel }
  | 3 => some { w1 := l.effectiveLevel }
  | 4 => some { w1 := l.depression }
  | 5 => some { w1 := l.dewPoint }
  | 6 => some { w1 := l.margin }
  | 7 => some { w1 := l.request }
  | 8 => some { w1 := timerWord s l.timer }
  | _ => none

/-- Request and grant of one source. -/
def shareWords (x : Share) : Words := { w1 := x.request, w2 := x.grant }

/-- Kind 6, items 12 to 83: the sources of the last publication. -/
def publicationItem (p : Publication) (item : Nat) : Option Words :=
  if item < 12 then none
  else if item < 60 then some (shareWords (p.outputs.getD (item - 12) {}))
  else if item < 62 then some (shareWords (p.screens.getD (item - 60) {}))
  else if item < 78 then
    let z := p.zones.getD ((item - 62) / 2) {}
    if (item - 62) % 2 = 0 then some { w1 := z.cls.shareCode, w2 := z.request, w3 := z.grant }
    else some { w1 := boolWord z.limited, w2 := z.storageRequest, w3 := z.storageGrant }
  else if item < 84 then some (shareWords (p.doors.getD (item - 78) {}))
  else none

/-- Kind 6, supply and budget unit. -/
def supplyItem (s : State) (item : Nat) : Option Words :=
  let u := s.supply
  match item with
  | 0 => some { w1 := u.state.code }
  | 1 => some { w1 := natWord u.lastLine }
  | 2 => some { w1 := timerWord s u.resumeDelay }
  | 3 => some { w1 := timerWord s u.longBreak }
  | 4 => some { w1 := u.target }
  | 5 => some { w1 := u.surplus }
  | 6 => some { w1 := u.ceiling }
  | 7 => some { w1 := timerWord s u.budget }
  | 8 => some { w1 := u.lastPub.supply.code }
  | 9 => some { w1 := u.lastPub.ceiling }
  | 10 => some { w1 := u.lastPub.surplus }
  | 11 => some { w1 := u.lastPub.shortClass.code }
  | i => publicationItem u.lastPub i

/-- Kind 7, output. -/
def outputItem (s : State) (k item : Nat) : Option Words :=
  let l := s.output k
  match item with
  | 0 => some { w1 := l.value }
  | 1 => some { w1 := natWord l.forced }
  | 2 => some { w1 := boolWord l.failed }
  | 3 => some { w1 := l.fRequest }
  | _ => none

/-- Two bytes of a sent content from byte i on, byte i low; 0 beyond it (R179). -/
def contentWord (content : List Byte) (i : Nat) : Int := u16 content i

/-- Kind 8, command frame. -/
def frameItem (s : State) (n item : Nat) : Option Words :=
  let l := s.schedule n
  let content := l.lastSent.getD []
  match item with
  | 0 => some { w1 := l.period }
  | 1 => some { w1 := natWord l.pendingPeriod }
  | 2 => some { w1 := timerWord s l.periodTimer }
  | 3 => some { w1 := natWord (l.lastPut.map fun t => min 0xFFFE ((s.now - t) / 10)) }
  | 4 => some { w1 := timerWord s l.spacing }
  | 5 => some { w1 := contentWord content 0, w2 := contentWord content 2, w3 := contentWord content 4 }
  | 6 => some { w1 := contentWord content 6, w2 := natWord (l.lastSent.map List.length) }
  | _ => none

/-- A stack entry's remaining lifetime in whole seconds, rounded up (R164). -/
def lifetimeWord (s : State) (t : Timer) : Int :=
  match t.left s.now with
  | some ms => ((ms + 999) / 1000 : Nat)
  | none => absentWord

/-- Kind 9, override stack, at a depth from the top. -/
def stackItem (s : State) (depth item : Nat) : Option Words :=
  let e := s.overrides.entries[depth]?
  match item with
  | 0 => some { w1 := s.overrides.entries.length }
  | 1 => some { w1 := natWord (e.map (·.preset)) }
  | 2 => some { w1 := match e with
      | some e => lifetimeWord s e.lifetime
      | none => absentWord }
  | _ => none

/-- How many objects an object kind has (R164); none for an unknown kind. -/
def objectCount : Nat → Option Nat
  | 0 => some 1
  | 1 => some 2
  | 2 => some 96
  | 3 => some 8
  | 4 => some 6
  | 5 => some 2
  | 6 => some 1
  | 7 => some 48
  | 8 => some 24
  | 9 => some 4
  | _ => none

/-- The words of an item (R179); none for an unknown kind or item. -/
def stateItem (s : State) (kind index item : Nat) : Option Words :=
  match kind with
  | 0 => managementItem s item
  | 1 => portItem s (if index = 0 then s.bp else s.fp) item
  | 2 => slotItem s index item
  | 3 => zoneItem s index item
  | 4 => doorItem s index item
  | 5 => screenItem s index item
  | 6 => supplyItem s item
  | 7 => outputItem s index item
  | 8 => frameItem s index item
  | 9 => stackItem s index item
  | _ => none

/-- The six data bytes of a READ STATE reply (R179). -/
def Words.toBytes (w : Words) : List Byte := le16 w.w1 ++ le16 w.w2 ++ le16 w.w3

end Sys2Proof.Machine
end

