-- ==== Sys2Proof/Machine/Management.lean ====
section
/-! DEFINITION. The management unit (chapter 10): the fifteen requests, UNKNOWN_REQUEST, LOAD_DATA, LOAD_TIMER_EXPIRY,
STORE_WRITE_END and STORE_TIMEOUT. -/

namespace Sys2Proof.Machine

/-! ### Replies (R162) -/

/-- The status codes of R162. -/
inductive Status where
  | ok | badRequest | badTable | badIndex | badValue | badState | busy | storeFault | invalid
  deriving DecidableEq, Repr

/-- A status's code (R162). -/
def Status.code : Status → Nat
  | .ok => 0
  | .badRequest => 1
  | .badTable => 2
  | .badIndex => 3
  | .badValue => 4
  | .badState => 5
  | .busy => 6
  | .storeFault => 7
  | .invalid => 8

/-- A reply (R162, R177): MB + 1, eight bytes, the request code echoed, the status, six bytes of data or 0. -/
def replyFrame (s : State) (code : Nat) (st : Status) (payload : List Byte) (carriesSwitch : Bool) : QueuedFrame :=
  { frame := composedFrame (s.classifier.mb + 1)
      (BitVec.ofNat 8 code :: BitVec.ofNat 8 st.code :: (payload ++ List.replicate 6 0).take 6)
    origin := .reply carriesSwitch }

/-- A reply with data put into BP CONTROL (R162). -/
def replyWith (code : Nat) (st : Status) (payload : List Byte) (s : State) : State :=
  putFrame .bp .control (replyFrame s code st payload false) s

/-- A reply put into BP CONTROL (R162). -/
def reply (code : Nat) (st : Status) (s : State) : State := replyWith code st [] s

/-- The OK reply of a request that makes a switch pending, its 100 ms timer started with the request (R171). -/
def replyThenSwitch (code : Nat) (k : SwitchKind) (s : State) : State :=
  let lost := s.putOutcome .bp .control (.reply true) == .dropped
  let s1 := putFrame .bp .control (replyFrame s code .ok [] true) s
  s1.setMgmt { s1.mgmt with
    switch := some { kind := k, timer := s1.startTimer Config.switchMs, replyLost := lost } }

/-! ### Taking a request (R162) -/

/-- The least data length of a request code (R177); none for an unknown code. -/
def requestLength : Nat → Option Nat
  | 0x01 => some 4
  | 0x02 => some 4
  | 0x03 => some 4
  | 0x04 => some 2
  | 0x05 => some 1
  | 0x06 => some 2
  | 0x07 => some 4
  | 0x08 => some 2
  | 0x09 => some 5
  | 0x0A => some 4
  | 0x0B => some 4
  | 0x0C => some 4
  | 0x0D => some 2
  | 0x0E => some 1
  | 0x0F => some 1
  | _ => none

/-- A request frame that names a request and is long enough for it (R162, R177). -/
def wellFormedRequest (data : List Byte) : Bool :=
  match data with
  | [] => false
  | c :: _ =>
    match requestLength c.toNat with
    | some n => decide (n ≤ data.length)
    | none => false

/-- READ RECORD and READ STATE, which are served during a STORE (R162). -/
def isRead (code : Nat) : Bool := code == 1 || code == 2

/-- Every request is answered BUSY while a switch is pending, and every one but the reads while a STORE runs (R162, R171). -/
def busyFor (s : State) (code : Nat) : Bool :=
  s.mgmt.switch.isSome || (s.mgmt.store.isSome && !isRead code)

/-- The six bytes of a record from an offset on, 0 past its end (R163). -/
def recordBytes (r : Rec) (offset : Nat) : List Byte := ((r.drop offset) ++ List.replicate 6 0).take 6

/-- The six live record bytes that a READ RECORD names, none where its table, index or offset is refused (R163). -/
def namedRecordBytes (data : List Byte) (s : State) : List Byte :=
  match TableId.ofNumber (u8 data 1) with
  | none => []
  | some t =>
    if u8 data 2 < t.count ∧ u8 data 3 < t.size then recordBytes (record s.tables t (u8 data 2)) (u8 data 3) else []

/-- The interval between an activation of a new MB and the change of the MB in force (R32, R168). -/
def newMbPending (s : State) : Bool := s.mgmt.switch.any (·.kind == .newMb)

/-- The data of a BUSY reply: 0, but for a READ RECORD while NEW MB is pending, which shows the live record (R32) although
its status is BUSY (R162, R171). The spec does not say how the three rules agree (DESIGN CHOICE, log 43). -/
def busyPayload (code : Nat) (data : List Byte) (s : State) : List Byte :=
  if code = 1 ∧ newMbPending s = true then namedRecordBytes data s else []

/-- A request turned away: BUSY, and no effect (R162). -/
def turnAway (code : Nat) (data : List Byte) (s : State) : State := replyWith code .busy (busyPayload code data s) s

/-- The captured frames replaced by those not yet taken. -/
def dropCaptured (rest : List Captured) (s : State) : State := s.setMgmt { s.mgmt with captured := rest }

/-- The oldest captured frame taken when it is a well-formed request of this code: BUSY, or served (R162). -/
def takeRequest (code : Nat) (serve : List Byte → State → State) (s : State) : Result :=
  match s.mgmt.captured with
  | .request data :: rest =>
    if u8 data 0 = code ∧ wellFormedRequest data = true then
      let taken := dropCaptured rest s
      .next (if busyFor s code then turnAway code data taken else serve data taken)
    else .next s
  | _ => .next s

/-! ### Reads (R163, R164) -/

/-- READ RECORD served (R163). -/
def serveReadRecord (data : List Byte) (s : State) : State :=
  match TableId.ofNumber (u8 data 1) with
  | none => reply 1 .badTable s
  | some t =>
    if u8 data 2 < t.count then
      if u8 data 3 < t.size then replyWith 1 .ok (recordBytes (record s.tables t (u8 data 2)) (u8 data 3)) s
      else reply 1 .badValue s
    else reply 1 .badIndex s

/-- READ_RECORD (R163), from the live table; BUSY while a switch is pending (R162, R171), with the record's bytes in the BUSY
reply while it is NEW MB (R32; DESIGN CHOICE, log 43). -/
def execReadRecord (s : State) : Result := takeRequest 1 serveReadRecord s

/-- READ STATE served (R164): an unknown kind or item is BAD_VALUE, then an index outside the kind's range BAD_INDEX. -/
def serveReadState (data : List Byte) (s : State) : State :=
  match objectCount (u8 data 1), stateItem s (u8 data 1) (u8 data 2) (u8 data 3) with
  | some n, some w => if u8 data 2 < n then replyWith 2 .ok w.toBytes s else reply 2 .badIndex s
  | _, _ => reply 2 .badValue s

/-- READ_STATE (R164). -/
def execReadState (s : State) : Result := takeRequest 2 serveReadState s

/-! ### Loading (R165 to R167) -/

/-- A load begun with a window (R165). -/
def beginLoad (w : LoadWindow) (s : State) : State :=
  s.setMgmt { s.mgmt with
    load := .loading
    window := some w
    buffer := []
    expected := 0
    failure := .none
    timer := s.startTimer Config.loadTimerMs }

/-- LOAD BEGIN served (R165). -/
def serveLoadBegin (data : List Byte) (s : State) : State :=
  if s.mgmt.load = .loading then reply 3 .badState s
  else
    match TableId.ofNumber (u8 data 1) with
    | none => reply 3 .badTable s
    | some t =>
      if 1 ≤ u8 data 3 ∧ u8 data 2 + u8 data 3 ≤ t.count then
        reply 3 .ok (beginLoad { table := t, first := u8 data 2, count := u8 data 3 } s)
      else reply 3 .badIndex s

/-- LOAD_BEGIN (R165). -/
def execLoadBegin (s : State) : Result := takeRequest 3 serveLoadBegin s

/-- A load data frame ignored and counted (R166). -/
def countStray (s : State) : State := s.setMgmt { s.mgmt with stray := satAdd s.mgmt.stray 1 }

/-- Total bytes of the load's window. -/
def loadTotal (s : State) : Nat := (s.mgmt.window.map LoadWindow.total).getD 0

/-- A load failed (R166). -/
def failLoad (cause : FailureCause) (s : State) : State :=
  raise .loadFailed (s.setMgmt { s.mgmt with load := .failed, failure := cause, timer := none })

/-- A load data frame of the expected segment (R166): appended up to the total, and LOAD_DONE at the total. -/
def appendPayload (payload : List Byte) (s : State) : State :=
  let buffer := (s.mgmt.buffer ++ payload).take (loadTotal s)
  let complete := loadTotal s ≤ buffer.length
  raiseWhen complete .loadDone
    (s.setMgmt { s.mgmt with
      buffer := buffer
      expected := (s.mgmt.expected + 1) % 256
      load := if complete then .complete else .loading
      timer := if complete then none else s.startTimer Config.loadTimerMs })

/-- A load data frame taken (R166). -/
def takeLoadData (data : List Byte) (s : State) : State :=
  match s.mgmt.load, data with
  | .loading, seg :: payload =>
    if seg.toNat = s.mgmt.expected then appendPayload payload s else failLoad .sequence s
  | .loading, [] => countStray s
  | .empty, _ => countStray s
  | .complete, _ => countStray s
  | .failed, _ => countStray s

/-- LOAD_DATA (R166): the oldest captured frame, when it is load data. -/
def execLoadData (s : State) : Result :=
  match s.mgmt.captured with
  | .loadData data :: rest => .next (takeLoadData data (dropCaptured rest s))
  | _ => .next s

/-- LOAD_TIMER_EXPIRY (R166). The timer runs in LOADING only. -/
def execLoadTimerExpiry (s : State) : Result := onExpiry s.mgmt.timer (failLoad .timeout) s

/-- The load buffer and window discarded (R167, R168). -/
def emptyLoad (s : State) : State :=
  s.setMgmt { s.mgmt with load := .empty, window := none, buffer := [], timer := none }

/-- ABORT LOAD served (R167). -/
def serveAbortLoad (_data : List Byte) (s : State) : State := reply 5 .ok (emptyLoad s)

/-- ABORT_LOAD (R167). -/
def execAbortLoad (s : State) : Result := takeRequest 5 serveAbortLoad s

/-! ### Activation (R168, R169, R171) -/

/-- The live global record's MB is not the MB in force (R169). -/
def mbChanged (s : State) : Bool := BitVec.ofNat 11 (globals s.tables).managementBase != s.classifier.mb

/-- A validated activation: the window goes live and the reply is OK, with a NEW MB switch pending when the activated global
record holds a new MB (R168, R169, R171). -/
def activateWindow (w : LoadWindow) (merged : List Rec) (s : State) : State :=
  let s1 := emptyLoad (goLive w merged s)
  if w.table = .globals ∧ mbChanged s1 = true then replyThenSwitch 4 .newMb s1 else reply 4 .ok s1

/-- ACTIVATE of a COMPLETE window (R168). -/
def activateComplete (w : LoadWindow) (s : State) : State :=
  let merged := mergedTable (s.tables.get w.table) w s.mgmt.buffer
  if validTable w.table merged then activateWindow w merged s else reply 4 .invalid (emptyLoad s)

/-- ACTIVATE served (R168). -/
def serveActivate (data : List Byte) (s : State) : State :=
  match TableId.ofNumber (u8 data 1), s.mgmt.load, s.mgmt.window with
  | none, _, _ => reply 4 .badTable s
  | some t, .complete, some w => if w.table = t then activateComplete w s else reply 4 .badTable s
  | some _, _, _ => reply 4 .badState s

/-- ACTIVATE (R168). -/
def execActivate (s : State) : Result := takeRequest 4 serveActivate s

/-! ### The image write (R174) -/

/-- The image write begins (R174); no reply yet. The image stays as it was until the write has ended, so that READ STATE of
the header meanwhile shows the old signature and codes (log 40). -/
def beginStore (mask : BitVec 7) (s : State) : State :=
  s.setMgmt { s.mgmt with store := some { mask := mask, deadline := s.startTimer Config.storeLimitMs } }

/-- STORE served (R174). -/
def serveStore (data : List Byte) (s : State) : State :=
  if s.mgmt.load = .loading then reply 6 .busy s
  else if u8 data 1 = 0 ∨ 128 ≤ u8 data 1 then reply 6 .badValue s
  else beginStore (BitVec.ofNat 7 (u8 data 1)) s

/-- STORE (R174). -/
def execStore (s : State) : Result := takeRequest 6 serveStore s

/-- The image write has ended, with an image and the deferred reply's status (R174). -/
def endStore (im : Image) (st : Status) (s : State) : State :=
  reply 6 st ((s.setImage im).setMgmt { s.mgmt with store := none })

/-- The image write ends after its fifth step, or at a step that fails to verify (R174). -/
def storeEnds (failed : Option StoreStep) (w : StoreRun) (s : State) : State :=
  match failed with
  | none => endStore (imageWritten s.image w.mask s.tables) .ok s
  | some step =>
    (endStore (imageBroken s.image w.mask s.tables step s.freeIndex) .storeFault s).setFreeIndex (s.freeIndex + 1)

/-- The write's 800 ms were over before now (R174). -/
def StoreRun.late (w : StoreRun) (now : Nat) : Bool :=
  match w.deadline with
  | some d => decide (d < now)
  | none => false

/-- How a write that its fifth step or a failing step ends has ended (R174): one whose 800 ms were over before then ended
with them, within a step that is free (log 6), whatever came of its steps. -/
def StoreRun.ending (w : StoreRun) (failed : Option StoreStep) (s : State) : Option StoreStep :=
  if w.late s.now then some (reachedStep s.freeIndex) else failed

/-- STORE_WRITE_END (R174): `failed` is the step that failed to verify, if one did. -/
def execStoreWriteEnd (failed : Option StoreStep) (s : State) : Result :=
  match s.mgmt.store with
  | some w => .next (storeEnds (w.ending failed s) w s)
  | none => .next s

/-- The end of an image write's 800 ms (R174). -/
def storeDeadline (s : State) : Timer :=
  match s.mgmt.store with
  | some w => w.deadline
  | none => none

/-- The image write's 800 ms are over before its steps (R174). -/
def storeTimesOut (s : State) : State :=
  match s.mgmt.store with
  | some w => storeEnds (some (reachedStep s.freeIndex)) w s
  | none => s

/-- STORE_TIMEOUT (R174). -/
def execStoreTimeout (s : State) : Result := onExpiry (storeDeadline s) storeTimesOut s

/-! ### Commands (R170, R139, R149, R14) -/

/-- A value lies within an output's kind (R170). -/
def OutputKind.admits (kind : OutputKind) (v : Nat) : Bool := decide (v ≤ kind.full)

/-- An output forced to a value (R139, R140). -/
def forceOutput (k v : Nat) (s : State) : State :=
  s.setOutput k { s.output k with forced := some v, value := forcedValue s k v, fRequest := fRequestOf s k (some v) }

/-- FORCE OUTPUT served (R170). -/
def serveForceOutput (data : List Byte) (s : State) : State :=
  if u8 data 1 < 48 then
    if (outputCfg s.tables (u8 data 1)).valid then
      if (outputCfg s.tables (u8 data 1)).kind.admits (u16 data 2) then
        reply 7 .ok (forceOutput (u8 data 1) (u16 data 2) s)
      else reply 7 .badValue s
    else reply 7 .badState s
  else reply 7 .badIndex s

/-- FORCE_OUTPUT (R139, R170). -/
def execForceOutput (s : State) : Result := takeRequest 7 serveForceOutput s

/-- An output after RELEASE (R139): one that is not forced is unchanged. -/
def OutputLive.released (l : OutputLive) : OutputLive :=
  if l.forced.isSome then { l with forced := none, value := 0, fRequest := 0 } else l

/-- Output k released, or every output with FFh (R139). -/
def releaseOutput (k : Nat) (s : State) : State :=
  mapOutputs (fun i l => if k = 255 ∨ i = k then l.released else l) s

/-- RELEASE OUTPUT served (R170). -/
def serveReleaseOutput (data : List Byte) (s : State) : State :=
  if u8 data 1 < 48 ∨ u8 data 1 = 255 then reply 8 .ok (releaseOutput (u8 data 1) s) else reply 8 .badIndex s

/-- RELEASE_OUTPUT (R139, R170). -/
def execReleaseOutput (s : State) : Result := takeRequest 8 serveReleaseOutput s

/-- A command frame's period set at once, or pending (R149). -/
def setPeriod (n period : Nat) (immediate : Bool) (s : State) : State :=
  let l := s.schedule n
  s.setSchedule n
    (if immediate then
      { l with period := period, pendingPeriod := none, periodTimer := s.startTimer (10 * period) }
    else { l with pendingPeriod := some period })

/-- SET FRAME PERIOD served (R170). -/
def serveSetFramePeriod (data : List Byte) (s : State) : State :=
  if u8 data 1 < 24 then
    if (frameCfg s.tables (u8 data 1)).valid then
      if 1 ≤ u16 data 2 ∧ u16 data 2 ≤ 1000 then
        reply 9 .ok (setPeriod (u8 data 1) (u16 data 2) (u8 data 4 != 0) s)
      else reply 9 .badValue s
    else reply 9 .badState s
  else reply 9 .badIndex s

/-- SET_FRAME_PERIOD (R149, R170). -/
def execSetFramePeriod (s : State) : Result := takeRequest 9 serveSetFramePeriod s

/-- A port's nine counters at 0 when `c` holds (R14). -/
def Port.clearedWhen (p : Port) (c : Bool) : Port := if c then { p with counters := {} } else p

/-- The counters of the named port or ports, every implausible count and the stray count at 0 (R14, R52, R166). -/
def clearCounters (port : Nat) (s : State) : State :=
  { s with
    bp := s.bp.clearedWhen (port == 0 || port == 2)
    fp := s.fp.clearedWhen (port == 1 || port == 2)
    slots := s.slots.map fun l => { l with implausible := 0 }
    mgmt := { s.mgmt with stray := 0 } }

/-- CLEAR COUNTERS served (R170). -/
def serveClearCounters (data : List Byte) (s : State) : State :=
  if u8 data 1 ≤ 2 then reply 13 .ok (clearCounters (u8 data 1) s) else reply 13 .badValue s

/-- CLEAR_COUNTERS (R14, R170). -/
def execClearCounters (s : State) : Result := takeRequest 13 serveClearCounters s

/-! ### Events (R172, R173) -/

/-- The flag mask of a request (R172, R177): bits above 21 are ignored. -/
def flagMask (data : List Byte) : BitVec 22 := BitVec.ofNat 22 (u8 data 1 + 256 * u8 data 2 + 65536 * u8 data 3)

/-- CLEAR EVENTS served (R172). -/
def serveClearEvents (data : List Byte) (s : State) : State :=
  reply 12 .ok (s.setMgmt { s.mgmt with flags := s.mgmt.flags &&& ~~~(flagMask data) })

/-- CLEAR_EVENTS (R172). -/
def execClearEvents (s : State) : Result := takeRequest 12 serveClearEvents s

/-- REPORT ENABLE served (R173): a report is put when a flag it enables is set at that moment. -/
def serveReportEnable (data : List Byte) (s : State) : State :=
  reply 10 .ok
    (reportWhen (s.mgmt.flags &&& flagMask data != 0)
      (s.setMgmt { s.mgmt with enables := s.mgmt.enables ||| flagMask data }))

/-- REPORT_ENABLE (R173). -/
def execReportEnable (s : State) : Result := takeRequest 10 serveReportEnable s

/-- REPORT DISABLE served (R173). -/
def serveReportDisable (data : List Byte) (s : State) : State :=
  reply 11 .ok (s.setMgmt { s.mgmt with enables := s.mgmt.enables &&& ~~~(flagMask data) })

/-- REPORT_DISABLE (R173). -/
def execReportDisable (s : State) : Result := takeRequest 11 serveReportDisable s

/-! ### RESUME, RESET and what is no request (R122, R171, R162) -/

/-- RESUME served (R122). -/
def serveResume (_data : List Byte) (s : State) : State :=
  match s.supply.state with
  | .held => reply 14 .ok (enterResuming s)
  | .onLine => reply 14 .badState s
  | .breaking => reply 14 .badState s
  | .resuming => reply 14 .badState s
  | .offWire => reply 14 .badState s

/-- RESUME (R122). -/
def execResume (s : State) : Result := takeRequest 14 serveResume s

/-- RESET served (R171). -/
def serveReset (_data : List Byte) (s : State) : State := replyThenSwitch 15 .reset s

/-- RESET (R171). -/
def execReset (s : State) : Result := takeRequest 15 serveReset s

/-- The status of a malformed request: BAD_REQUEST, but where the part is busy either BAD_REQUEST or BUSY (R162; log 8). -/
def malformedStatus (s : State) (data : List Byte) : Status :=
  if busyFor s (u8 data 0) && !Config.malformedBeforeBusy then .busy else .badRequest

/-- UNKNOWN_REQUEST (R162): the oldest captured frame, when it is a request frame of length 0, of an unknown code, or too
short for its code. -/
def execUnknownRequest (s : State) : Result :=
  match s.mgmt.captured with
  | .request data :: rest =>
    if wellFormedRequest data then .next s
    else .next (reply (u8 data 0) (malformedStatus s data) (dropCaptured rest s))
  | _ => .next s

end Sys2Proof.Machine
end

