-- ==== Sys2Proof/Machine/Dispatch.lean ====
section
/-! DEFINITION. One arm for each command: a direct call of its meaning. -/

namespace Sys2Proof.Machine

def exec (i : Instr) (s : State) : Host.Outcome State Fault Refusal :=
  match i with
  | .powerOn => Sys2Proof.Machine.execPowerOn s
  | .resetPin => Sys2Proof.Machine.execResetPin s
  | .initEnd => Sys2Proof.Machine.execInitEnd s
  | .frameReception port frame => Sys2Proof.Machine.execFrameReception port frame s
  | .rxError port => Sys2Proof.Machine.execRxError port s
  | .transmitAttempt port => Sys2Proof.Machine.execTransmitAttempt port s
  | .arbitrationLost port => Sys2Proof.Machine.execArbitrationLost port s
  | .transmitComplete port => Sys2Proof.Machine.execTransmitComplete port s
  | .transmitError port => Sys2Proof.Machine.execTransmitError port s
  | .busOffHoldExpiry port => Sys2Proof.Machine.execBusOffHoldExpiry port s
  | .frameClassify => Sys2Proof.Machine.execFrameClassify s
  | .binderRun => Sys2Proof.Machine.execBinderRun s
  | .stalenessExpiry slot => Sys2Proof.Machine.execStalenessExpiry slot s
  | .vehicleModeNotice => Sys2Proof.Machine.execVehicleModeNotice s
  | .zoneStep zone => Sys2Proof.Machine.execZoneStep zone s
  | .storageHoldExpiry zone => Sys2Proof.Machine.execStorageHoldExpiry zone s
  | .doorPeriod door => Sys2Proof.Machine.execDoorPeriod door s
  | .doorOpenNotice door => Sys2Proof.Machine.execDoorOpenNotice door s
  | .releaseNotice door => Sys2Proof.Machine.execReleaseNotice door s
  | .openTimerExpiry door => Sys2Proof.Machine.execOpenTimerExpiry door s
  | .runOnExpiry door => Sys2Proof.Machine.execRunOnExpiry door s
  | .signalLostExpiry door => Sys2Proof.Machine.execSignalLostExpiry door s
  | .doorClimateNotice => Sys2Proof.Machine.execDoorClimateNotice s
  | .screenEvaluation channel => Sys2Proof.Machine.execScreenEvaluation channel s
  | .screenClimateNotice => Sys2Proof.Machine.execScreenClimateNotice s
  | .lineWriteNotice => Sys2Proof.Machine.execLineWriteNotice s
  | .lineLeaveNotice => Sys2Proof.Machine.execLineLeaveNotice s
  | .poleChangeNotice => Sys2Proof.Machine.execPoleChangeNotice s
  | .resumeDelayExpiry => Sys2Proof.Machine.execResumeDelayExpiry s
  | .longBreakExpiry => Sys2Proof.Machine.execLongBreakExpiry s
  | .budgetTimerExpiry => Sys2Proof.Machine.execBudgetTimerExpiry s
  | .publicationTake => Sys2Proof.Machine.execPublicationTake s
  | .composerClimateNotice => Sys2Proof.Machine.execComposerClimateNotice s
  | .framePeriodExpiry entry => Sys2Proof.Machine.execFramePeriodExpiry entry s
  | .spacingExpiry entry => Sys2Proof.Machine.execSpacingExpiry entry s
  | .push => Sys2Proof.Machine.execPush s
  | .pop => Sys2Proof.Machine.execPop s
  | .remove => Sys2Proof.Machine.execRemove s
  | .clear => Sys2Proof.Machine.execClear s
  | .deskReject => Sys2Proof.Machine.execDeskReject s
  | .lifetimeExpiry preset => Sys2Proof.Machine.execLifetimeExpiry preset s
  | .stackClimateNotice => Sys2Proof.Machine.execStackClimateNotice s
  | .readRecord => Sys2Proof.Machine.execReadRecord s
  | .readState => Sys2Proof.Machine.execReadState s
  | .loadBegin => Sys2Proof.Machine.execLoadBegin s
  | .loadData => Sys2Proof.Machine.execLoadData s
  | .loadTimerExpiry => Sys2Proof.Machine.execLoadTimerExpiry s
  | .abortLoad => Sys2Proof.Machine.execAbortLoad s
  | .activate => Sys2Proof.Machine.execActivate s
  | .store => Sys2Proof.Machine.execStore s
  | .storeWriteEnd failed => Sys2Proof.Machine.execStoreWriteEnd failed s
  | .storeTimeout => Sys2Proof.Machine.execStoreTimeout s
  | .forceOutput => Sys2Proof.Machine.execForceOutput s
  | .releaseOutput => Sys2Proof.Machine.execReleaseOutput s
  | .setFramePeriod => Sys2Proof.Machine.execSetFramePeriod s
  | .clearCounters => Sys2Proof.Machine.execClearCounters s
  | .clearEvents => Sys2Proof.Machine.execClearEvents s
  | .reportEnable => Sys2Proof.Machine.execReportEnable s
  | .reportDisable => Sys2Proof.Machine.execReportDisable s
  | .resume => Sys2Proof.Machine.execResume s
  | .reset => Sys2Proof.Machine.execReset s
  | .unknownRequest => Sys2Proof.Machine.execUnknownRequest s
  | .switchTimerExpiry => Sys2Proof.Machine.execSwitchTimerExpiry s

end Sys2Proof.Machine
end

