-- ==== Sys2Proof/Machine/Step.lean ====
section
/-! DEFINITION. One step of the part: the command at the front of the queue is carried out; with no command waiting, one
tick passes (log 1). -/

namespace Sys2Proof.Machine

/-- The part with no command waiting: its clock ticks, its timers run on, and nothing else happens (log 1). -/
def idle (s : State) : State := s.elapse Config.tickMs

/-- Take the command at the front of the queue and carry it out on the state with the queue's rest. -/
def step (s : State) : Host.Outcome State Fault Refusal :=
  match s.pending with
  | c :: rest => exec c (s.setPending rest)
  | [] => .next (idle s)

/-- The state with the command that a word spells at the front of its queue; no word spells one (log 15). -/
def State.withFetchWord (s : State) (nbits w : Nat) : State :=
  match decodeTableWord nbits w with
  | some c => s.setPending (c :: s.pending)
  | none => s

end Sys2Proof.Machine
end

