-- ==== Sys2Proof/Safety.lean ====
section
/-! DEFINITION. What the spec promises of every state the part can be in: shapes, capacities, ranges, the power laws and the
override stack's laws, each a predicate on a state that claims about `step` use. -/

namespace Sys2Proof.Machine

/-! ### Shapes (1.1, 10.1, 11.3) -/

/-- Every table has as many records as 11.3 says, each of its record size. -/
def Tables.Shaped (t : Tables) : Prop :=
  ∀ k : TableId, (t.get k).length = k.count ∧ ∀ r ∈ t.get k, r.length = k.size

/-- A window lies within its table and holds a record (R165). -/
def LoadWindow.Fits (w : LoadWindow) : Prop := 1 ≤ w.count ∧ w.first + w.count ≤ w.table.count

/-- What each load state goes with (10.1, R165 to R167): nothing in EMPTY, an unfilled buffer and a running timer in
LOADING, a full buffer in COMPLETE; the timer runs in LOADING only. -/
def Management.LoadShaped (m : Management) : Prop :=
  m.expected < 256 ∧
  match m.load with
  | .empty => m.window = none ∧ m.buffer = [] ∧ m.timer = none
  | .loading => m.timer.isSome = true ∧ ∃ w, m.window = some w ∧ w.Fits ∧ m.buffer.length < w.total
  | .complete => m.timer = none ∧ ∃ w, m.window = some w ∧ w.Fits ∧ m.buffer.length = w.total
  | .failed => m.timer = none

/-- The state holds as many live records of each kind as the chapters say, tables and stored tables of the right shape, and a
load that fits its state. -/
structure State.Shaped (s : State) : Prop where
  tables   : s.tables.Shaped
  stored   : s.image.stored.Shaped
  codes    : s.image.codes.length = 7
  slots    : s.slots.length = 96
  zones    : s.regulator.zones.length = 8
  doors    : s.doors.doors.length = 6
  screens  : s.screens.channels.length = 2
  outputs  : s.composer.outputs.length = 48
  schedule : s.composer.schedules.length = 24
  load     : s.mgmt.LoadShaped

/-! ### Ports (1.1 to 1.5) -/

/-- No two frames of one queue have the same origin, when the origin is an event report or a command frame (R6). -/
def OneOfEachOrigin (q : List QueuedFrame) : Prop :=
  ∀ o : Origin, o.coalesces = true → (q.filter fun x => x.origin == o).length ≤ 1

/-- The nine counters lie within 0..65535 (1.5). -/
def Counters.Bounded (c : Counters) : Prop :=
  c.rxAccepted ≤ 65535 ∧ c.overrun ≤ 65535 ∧ c.rxError ≤ 65535 ∧ c.lengthShort ≤ 65535 ∧ c.txSent ≤ 65535 ∧
  c.txError ≤ 65535 ∧ c.txDrop ≤ 65535 ∧ c.flushed ≤ 65535 ∧ c.busOffEpisodes ≤ 65535

/-- What a port always is (1.1, R6, R7, R9 to R13): within its capacities, its error state the one its count stands for,
no duplicate origin in a queue, the frame on offer the head of its queue by origin; BUS_OFF exactly while the hold timer
runs, and then with empty queues and nothing on offer. -/
structure Port.Sound (p : Port) : Prop where
  rx       : p.rx.length ≤ 32
  urgent   : p.urgent.length ≤ 8
  control  : p.control.length ≤ 16
  bulk     : p.bulk.length ≤ 16
  tec      : p.tec ≤ 256
  state    : (p.err = .active ↔ p.tec ≤ 127) ∧ (p.err = .busOff ↔ p.tec = 256)
  hold     : p.err = .busOff ↔ p.hold.isSome = true
  flushed  : p.err = .busOff → p.urgent = [] ∧ p.control = [] ∧ p.bulk = [] ∧ p.offer = none
  origins  : OneOfEachOrigin p.urgent ∧ OneOfEachOrigin p.control ∧ OneOfEachOrigin p.bulk
  offer    : ∀ o, p.offer = some o → ∃ x rest, p.queue o.cls = x :: rest ∧ x.origin = o.carried.origin
  counters : p.counters.Bounded

/-- Both ports are sound. -/
def State.PortsSound (s : State) : Prop := s.bp.Sound ∧ s.fp.Sound

/-! ### Timers (3.1.3, 5.1.3, 7.1) -/

/-- A staleness timer runs only in FRESH (R42 to R44), and a FRESH slot has a last good value (R42). -/
def SlotLive.TimerSound (l : SlotLive) : Prop :=
  (l.timer.isSome = true → l.state = .fresh) ∧ (l.state = .fresh → l.lastGood.isSome = true)

/-- A door's open timer runs in OPEN only, its run-on timer in RUN_ON only, its signal-lost timer not in FAULT (5.1.3). -/
def DoorLive.TimersSound (l : DoorLive) : Prop :=
  (l.openTimer.isSome = true → l.state = .opened) ∧
  (l.runOn.isSome = true → l.state = .runOn) ∧
  (l.state = .fault → l.signalLost = none)

/-- Every timer that a state owns runs in that state only: staleness, doors, and the supply unit's two BREAK timers. -/
def State.TimersSound (s : State) : Prop :=
  (∀ l ∈ s.slots, l.TimerSound) ∧ (∀ l ∈ s.doors.doors, l.TimersSound) ∧
  (s.supply.resumeDelay.isSome = true → s.supply.state = .breaking) ∧
  (s.supply.longBreak.isSome = true → s.supply.state = .breaking)

/-! ### Climate blocks (4.1.4, 5.1.3, 6.1.3) -/

/-- A zone's stored values within their ranges, its integral within the limit of its selected profile (4.1.4, R72). -/
structure ZoneLive.Bounded (l : ZoneLive) (p : Profile) : Prop where
  integral : -p.integralLimit ≤ l.integral ∧ l.integral ≤ p.integralLimit
  demand   : -1000 ≤ l.demand ∧ l.demand ≤ 1000
  raw      : -32768 ≤ l.rawDemand ∧ l.rawDemand ≤ 32767
  temp     : -400 ≤ l.temp ∧ l.temp ≤ 850
  setpoint : l.setpoint = 0 ∨ (50 ≤ l.setpoint ∧ l.setpoint ≤ 300)
  blower   : l.blower ≤ 1000
  damper   : l.damper ≤ 1000
  request  : l.request ≤ 1500
  storage  : l.storageRequest ≤ 1500

/-- Every zone is within its ranges under the live tables. -/
def State.ZonesBounded (s : State) : Prop :=
  ∀ (z : Nat) (l : ZoneLive), s.regulator.zones[z]? = some l → l.Bounded (profileCfg s.tables z l.profile)

/-- A door's stored values within their ranges, its debt within its record's debt limit (5.1.3, R94). -/
structure DoorLive.Bounded (l : DoorLive) (c : DoorCfg) : Prop where
  debt    : l.debt ≤ c.debtLimit
  ff      : l.ff ≤ 400
  request : l.request ≤ 1500
  stage   : l.stage ≤ 3
  held    : l.heldStage ≤ 3
  own     : l.ownStage ≤ 3

/-- Every door is within its ranges under the live tables. -/
def State.DoorsBounded (s : State) : Prop :=
  ∀ (d : Nat) (l : DoorLive), s.doors.doors[d]? = some l → l.Bounded (doorCfg s.tables d)

/-- A screen channel's levels: the condition level is the condition's, the effective level at least that and at most 3, the
request within 0..1500 (R108, R109, R111). -/
def ScreenLive.Levelled (l : ScreenLive) : Prop :=
  l.conditionLevel = l.condition.level ∧ l.conditionLevel ≤ l.effectiveLevel ∧ l.effectiveLevel ≤ 3 ∧ l.request ≤ 1500

/-- Every screen channel's levels are right. -/
def State.ScreensLevelled (s : State) : Prop := ∀ l ∈ s.screens.channels, l.Levelled

/-! ### Power (chapters 7 and 8) -/

/-- A publication gives out no more than its ceiling, and its ceiling is at most 1500 (R131). -/
def Publication.WithinCeiling (p : Publication) : Prop := p.granted ≤ p.ceiling ∧ p.ceiling ≤ 1500

/-- Every publication the part holds, and C_eff itself, keep to the ceiling. -/
def State.GrantsBounded (s : State) : Prop :=
  s.supply.ceiling ≤ 1500 ∧ s.supply.lastPub.WithinCeiling ∧ s.composer.copy.WithinCeiling ∧
  ∀ p ∈ s.composer.publications, p.WithinCeiling

/-- While the composer's copy holds BREAK or HELD, every conditioning output has value 0 and asks for nothing (R140, R144). -/
def State.ConditioningCut (s : State) : Prop :=
  s.composer.copy.supply.cut = true →
    ∀ k, (outputCfg s.tables k).conditioning = true → (s.output k).value = 0 ∧ (s.output k).fRequest = 0

/-- The power that output k's value draws (8.1.1). -/
def drawn (s : State) (k : Nat) : Nat := (outputCfg s.tables k).power (s.output k).value

/-- The grants of a publication that sources fill from: all but the F grants. -/
def Publication.sourceGrants (p : Publication) : Nat :=
  (p.screens.map (·.grant)).sum + (p.zones.map fun z => z.grant + z.storageGrant).sum + (p.doors.map (·.grant)).sum

/-- The outputs that are not forced together draw at most what the sources were granted, and each forced output at most its
F grant (R142). -/
def State.DrawBounded (s : State) : Prop :=
  ((List.range 48).map fun k => if (s.output k).forced.isSome then 0 else drawn s k).sum ≤ s.composer.copy.sourceGrants ∧
  ∀ k, k < 48 → (s.output k).forced.isSome = true → drawn s k ≤ fGrant s k

/-- The role is one of zone z's. -/
def Role.ofZone (z : Nat) : Role → Bool
  | .zoneBlower y | .zoneDamper y | .conditioning y => y == z
  | .curtainFan _ | .curtainHeat _ | .screenHeater _ => false

/-- The role is one of door d's. -/
def Role.ofDoor (d : Nat) : Role → Bool
  | .curtainFan y | .curtainHeat y => y == d
  | .zoneBlower _ | .zoneDamper _ | .conditioning _ | .screenHeater _ => false

/-- The role is screen channel c's. -/
def Role.ofScreen (c : Nat) : Role → Bool
  | .screenHeater y => y == c
  | .zoneBlower _ | .zoneDamper _ | .conditioning _ | .curtainFan _ | .curtainHeat _ => false

/-- The power that the outputs of one source draw: those in a role that `mine` holds of and that are not forced. -/
def drawnBy (s : State) (mine : Role → Bool) : Nat :=
  ((List.range 48).map fun k =>
    if (s.output k).forced.isNone && (role s.tables k).any mine then drawn s k else 0).sum

/-- Every source's outputs together draw at most that source's grants in the copy of the last publication (R142). -/
structure State.SourcesBounded (s : State) : Prop where
  zones   : ∀ z, drawnBy s (Role.ofZone z) ≤
    (s.composer.copy.zones.getD z {}).grant + (s.composer.copy.zones.getD z {}).storageGrant
  doors   : ∀ d, drawnBy s (Role.ofDoor d) ≤ (s.composer.copy.doors.getD d {}).grant
  screens : ∀ c, drawnBy s (Role.ofScreen c) ≤ (s.composer.copy.screens.getD c {}).grant

/-! ### Override stack (chapter 9) -/

/-- The stack holds at most 4 entries, no preset twice, only presets that are valid in the live table, and nothing while its
climate state is STANDBY (R153, R155, R159). -/
structure State.StackSound (s : State) : Prop where
  depth  : s.overrides.entries.length ≤ 4
  unique : (s.overrides.entries.map (·.preset)).Nodup
  valid  : ∀ e ∈ s.overrides.entries, e.preset < 8 ∧ (presetCfg s.tables e.preset).valid = true
  parked : s.overrides.climate = .standby → s.overrides.entries = []

/-! ### INIT (R16, R33, R53, R82, R101, R115, R136, R152, R161, R175) -/

/-- During INIT nothing runs and nothing waits: FIFOs, hand-offs, notices, captured frames and publications are empty, no
frame is on offer, no timer runs and every door is IDLE. -/
structure State.Quiet (s : State) : Prop where
  bp        : s.bp.rx = [] ∧ s.bp.offer = none ∧ s.bp.hold = none
  fp        : s.fp.rx = [] ∧ s.fp.offer = none ∧ s.fp.hold = none
  binder    : s.binder = []
  slots     : ∀ l ∈ s.slots, l.timer = none
  notices   : s.regulator.notices = []
  zones     : ∀ l ∈ s.regulator.zones, l.step = none ∧ l.hold = none
  doors     : s.doors.climateNotices = [] ∧ ∀ l ∈ s.doors.doors,
    l.state = .idle ∧ l.notices = [] ∧ l.period = none ∧ l.openTimer = none ∧ l.runOn = none ∧ l.signalLost = none
  screens   : s.screens.climateNotices = [] ∧ ∀ l ∈ s.screens.channels, l.timer = none
  supply    : s.supply.notices = [] ∧ s.supply.budget = none ∧ s.supply.resumeDelay = none ∧ s.supply.longBreak = none
  composer  : s.composer.climateNotices = [] ∧ s.composer.publications = [] ∧
    ∀ l ∈ s.composer.schedules, l.periodTimer = none ∧ l.spacing = none
  overrides : s.overrides.climateNotices = [] ∧ s.overrides.handOffs = [] ∧ s.overrides.entries = []
  mgmt      : s.mgmt.captured = [] ∧ s.mgmt.timer = none ∧ s.mgmt.store = none ∧ s.mgmt.switch = none

/-- A state that is in INIT is quiet. -/
def State.InitQuiet (s : State) : Prop := s.phase = .init → s.Quiet

end Sys2Proof.Machine
end

