-- ==== Sys2Proof/Certificates/Slice0/Obligations.lean ====
section
/-! DEFINITION. The statements for the provers: what the spec's rules say of the commands, of the operations they share and
of every step. Each docstring names the rules it formalises. -/

section

open Sys2Proof Sys2Proof.Machine

/-! ### The machine -/

/-- One step carries out the command at the front of the queue on the state with the queue's rest. -/
def Obligations.StepRunsFront : Prop :=
  ∀ (c : Instr) (rest : List Instr) (s : State), s.pending = c :: rest →
    step s = exec c { s with pending := rest }

/-- No command touches the queue of waiting commands (log 15). -/
def Obligations.ExecLeavesQueue : Prop :=
  ∀ (c : Instr) (s t : State), exec c s = .next t → t.pending = s.pending

/-- Every well-formed command completes in every state; the one stop is a frame that no bus carries (1.1, log 16). -/
def Obligations.StopsOnlyOnIllFormedFrame : Prop :=
  ∀ (c : Instr) (s : State),
    (c.wellFormed = true → ∃ t, exec c s = .next t) ∧
    (c.wellFormed = false → exec c s = .refused .illFormedFrame)

/-! ### Start -/

/-- The start values of R15, R33, R53, R82, R101, R115, R136, R152, R161 and 10.1 as `State.reset` holds them, every item of
every block. That the image is blank and the part stands in INIT is the model's choice (log 10, log 17); climate state and
vehicle mode in INIT are log 11, the mode in force log 14, the class of a zone in the publications log 18, and `ownStage` and
`unpublished` are the model's own fields (log 12, log 29). -/
def Obligations.ResetValues : Prop :=
  let s := State.reset
  let zero : Counters :=
    { rxAccepted := 0, overrun := 0, rxError := 0, lengthShort := 0, txSent := 0, txError := 0, txDrop := 0, flushed := 0
      busOffEpisodes := 0 }
  let report : QueuedFrame :=
    { frame := { ident := .standard 0x5C2, kind := .data, lengthCode := 8, data := [1, 0, 0x10, 0, 1, 0, 0, 0] }
      origin := .eventReport }
  let port (reports : List QueuedFrame) : Port :=
    { rx := [], urgent := reports, control := [], bulk := [], err := .active, tec := 0, hold := none, offer := none
      counters := zero }
  let nothing : Share := { request := 0, grant := 0 }
  let publication : Publication :=
    { supply := .breaking
      ceiling := 20
      shortClass := .none
      surplus := 0
      outputs := List.replicate 48 nothing
      screens := List.replicate 2 nothing
      zones := List.replicate 8
        { cls := .saloon, request := 0, grant := 0, limited := false, storageRequest := 0, storageGrant := 0 }
      doors := List.replicate 6 nothing }
  s.phase = .init ∧ s.bp = port [report] ∧ s.fp = port [] ∧ s.classifier = { lastServed := .fp, mb := 0x5C0 } ∧
  (∀ k : TableId, s.tables.get k = List.replicate k.count k.defaultRecord) ∧ s.image.signed = false ∧
  s.binder = [] ∧
  s.slots = List.replicate 96
    { state := .never, lastWritten := none, lastGood := none, timer := none, reference := none, implausible := 0 } ∧
  s.regulator =
    { climate := .standby
      mode := .parked
      notices := []
      zones := List.replicate 8
        { condition := .idle, profile := 0, setpoint := 0, temp := 0, tier := .none, mode := .normal, integral := 0
          rawDemand := 0, demand := 0, blower := 0, damper := 0, request := 0, storageRequest := 0, hold := none
          step := none, unpublished := false } } ∧
  s.doors =
    { climate := .standby
      climateNotices := []
      doors := List.replicate 6
        { state := .idle, stage := 0, ownStage := 0, heldStage := 0, fan := .off, debt := 0, ff := 0, request := 0
          period := none, openTimer := none, runOn := none, signalLost := none, notices := [] } } ∧
  s.screens =
    { climate := .standby
      climateNotices := []
      channels := List.replicate 2
        { condition := .clear, basis := .margin, conditionLevel := 0, effectiveLevel := 0, depression := 0, dewPoint := 0
          margin := 0, request := 0, timer := none } } ∧
  s.supply =
    { state := .breaking, lastLine := none, resumeDelay := none, longBreak := none, target := 20, surplus := 0, ceiling := 20
      budget := none, lastPub := publication, notices := [] } ∧
  s.composer =
    { climate := .standby
      climateNotices := []
      publications := []
      copy := publication
      outputs := List.replicate 48 { value := 0, forced := none, failed := false, fRequest := 0 }
      schedules := List.replicate 24
        { period := 100, pendingPeriod := none, periodTimer := none, lastPut := none, spacing := none, lastSent := none } } ∧
  s.overrides = { climate := .standby, climateNotices := [], entries := [], handOffs := [] } ∧
  s.mgmt =
    { captured := [], load := .empty, window := none, buffer := [], expected := 0, timer := none, failure := .none, stray := 0
      store := none, switch := none, flags := s.mgmt.flags, enables := s.mgmt.enables, cause := .power } ∧
  (∀ f : Flag, hasFlag s.mgmt.flags f = (f == .start || f == .imageInvalid)) ∧
  (∀ f : Flag, hasFlag s.mgmt.enables f =
    (f == .start || f == .busOff || f == .supplyHeld || f == .loadFailed || f == .imageInvalid))

/-- POWER_ON and RESET_PIN of a part without a valid signature and with no image write under way give the reset state (R175,
R33, R53, R82, R101, R115, R136, R152, R161); clock, free choices, image and queue are kept. The reset state holds choices
of the model (log 9, 10, 11, 12, 14, 17, 18, 29). -/
def Obligations.StartWithoutImage : Prop :=
  ∀ (c : Instr) (s : State), c = .powerOn ∨ c = .resetPin → s.image.signed = false → s.mgmt.store = none →
    exec c s = .next { State.reset with
      now := s.now, freeIndex := s.freeIndex + 1, image := s.image, pending := s.pending }

/-- POWER_ON and RESET_PIN load each accepted group and give every other its defaults (R175); an image write under way is
left without a signature (R174); IMAGE_INVALID says whether the signature is missing. Everything else has the reset state's
values, which ResetValues spells (R15, R53, R82, R101, R115, R136, R152, R161, 10.1), but for what the loaded tables give:
MB, the break allowance, the frames' periods, and the zones' classes in the publications, which are log 18's. What an
interrupted write leaves is log 6; climate state and vehicle mode in INIT, and so the report's climate byte, are log 11; the
zones' mode in force is log 14; a default field without a listed default is log 9; ownStage and unpublished are the model's
own (log 12, log 29). -/
def Obligations.StartLoadsAcceptedGroups : Prop :=
  ∀ (c : Instr) (s : State), c = .powerOn ∨ c = .resetPin →
    ∃ t, exec c s = .next t ∧
      (∀ k : TableId, t.tables.get k =
        if t.image.signed = true ∧ t.image.codes.getD k.group.number 0 = 1 then t.image.stored.get k
        else List.replicate k.count k.defaultRecord) ∧
      t.image.signed = (s.image.signed && s.mgmt.store.isNone) ∧
      (s.mgmt.store = none → t.image = s.image) ∧
      hasFlag t.mgmt.flags .start = true ∧ hasFlag t.mgmt.flags .imageInvalid = !t.image.signed ∧
      t.mgmt.cause = .power ∧ t.phase = .init ∧ t.Quiet ∧
      t.classifier.mb = BitVec.ofNat 11 (globals t.tables).managementBase ∧
      (let g := globals t.tables
       let publication : Publication :=
        { supply := .breaking
          ceiling := g.breakAllowance
          shortClass := .none
          surplus := 0
          outputs := List.replicate 48 { request := 0, grant := 0 }
          screens := List.replicate 2 { request := 0, grant := 0 }
          zones := (List.range 8).map fun z =>
            { cls := (zoneCfg t.tables z).cls, request := 0, grant := 0, limited := false
              storageRequest := 0, storageGrant := 0 }
          doors := List.replicate 6 { request := 0, grant := 0 } }
       t = { State.reset with
        now := s.now
        freeIndex := s.freeIndex + 1
        tables := t.tables
        image := t.image
        bp := { State.reset.bp with
          urgent := [{
            frame := { ident := .standard (BitVec.ofNat 11 g.managementBase + 2), kind := .data, lengthCode := 8
                       data := [1, 0, if t.image.signed = true then 0 else 0x10, 0, 1, 0, 0, 0] }
            origin := .eventReport }] }
        classifier := { State.reset.classifier with mb := BitVec.ofNat 11 g.managementBase }
        supply := { State.reset.supply with
          target := g.breakAllowance, ceiling := g.breakAllowance, lastPub := publication }
        composer := { State.reset.composer with
          copy := publication
          schedules := (List.range 24).map fun n =>
            { period := (frameCfg t.tables n).period, pendingPeriod := none, periodTimer := none, lastPut := none
              spacing := none, lastSent := none } }
        mgmt := { State.reset.mgmt with flags := if t.image.signed = true then 1 else 0x100001 }
        pending := s.pending })

/-- INIT_END in INIT (R16, R57, R62, R82, R101, R115, R136, R152, R175): the climate state and the vehicle mode are derived
and every block starts in that climate state without a notice or a flag; the valid zones' profiles are selected, the
timers of the valid objects start, and nothing else changes. -/
def Obligations.InitEndStartsBlocks : Prop :=
  ∀ s : State, s.phase = .init →
    let m := (s.read (globals s.tables).modeSlot).1
    let c : Climate := if 1 ≤ m ∧ m ≤ 4 then .active else .standby
    ∃ mode : VehicleMode, (mode.code : Int) = (if 1 ≤ m ∧ m ≤ 4 then m else 0) ∧
      exec .initEnd s = .next { s with
        phase := .running
        regulator := { s.regulator with
          climate := c
          mode := mode
          zones := s.regulator.zones.mapIdx fun z l =>
            if (zoneCfg s.tables z).valid = true then
              let p := if 1 ≤ m ∧ m ≤ 4 then (zoneCfg s.tables z).profileMap.getD (m - 1).toNat 0 else l.profile
              let top := (profileCfg s.tables z p).integralLimit
              { l with
                profile := p
                integral := if p = l.profile then l.integral else max (-top) (min top l.integral)
                step := some (s.now + 1000) }
            else l }
        doors := { s.doors with
          climate := c
          doors := s.doors.doors.mapIdx fun d l =>
            if (doorCfg s.tables d).valid = true then
              { l with
                period := some (s.now + 1000)
                signalLost := if c = .active then some (s.now + 1000 * (globals s.tables).signalLostTime) else none }
            else l }
        screens := { s.screens with
          climate := c
          channels := s.screens.channels.mapIdx fun k l =>
            if (screenCfg s.tables k).valid = true then { l with timer := some (s.now + 2000) } else l }
        supply := { s.supply with budget := some (s.now + 100) }
        composer := { s.composer with
          climate := c
          schedules := s.composer.schedules.mapIdx fun n l =>
            if (frameCfg s.tables n).valid = true then { l with periodTimer := some (s.now + 10 * l.period) } else l }
        overrides := { s.overrides with climate := c } }

/-- INIT stays quiet through every step, and in a quiet INIT nothing but a start or the end of INIT changes anything (R16,
R53, R82, R101, R115, R136, R152, R161, R175). -/
def Obligations.InitStaysQuiet : Prop :=
  (∀ s t : State, s.InitQuiet → step s = .next t → t.InitQuiet) ∧
  ∀ (c : Instr) (s : State), s.phase = .init → s.Quiet → c.wellFormed = true →
    c ≠ .powerOn → c ≠ .resetPin → c ≠ .initEnd → exec c s = .next s

/-- The reset state meets every invariant of Safety.lean. -/
def Obligations.ResetMeetsInvariants : Prop :=
  State.reset.Shaped ∧ State.reset.PortsSound ∧ State.reset.TimersSound ∧ State.reset.ZonesBounded ∧
  State.reset.DoorsBounded ∧ State.reset.ScreensLevelled ∧ State.reset.GrantsBounded ∧ State.reset.ConditioningCut ∧
  State.reset.DrawBounded ∧ State.reset.SourcesBounded ∧ State.reset.StackSound ∧ State.reset.InitQuiet

/-! ### Invariants that every step keeps -/

/-- Tables keep their shape through every load and activation, and every block its number of live records (11.3, 10.1,
R165 to R168). -/
def Obligations.ShapesKept : Prop :=
  ∀ s t : State, s.Shaped → step s = .next t → t.Shaped

/-- Ports keep to their capacities, their error state follows the error count, no queue holds an origin twice, and the
hold timer runs exactly in BUS_OFF (1.1, R5 to R13). -/
def Obligations.PortsSoundKept : Prop :=
  ∀ s t : State, s.PortsSound → step s = .next t → t.PortsSound

/-- Staleness, door and supply timers run only in the states that own them (3.1.3, 5.1.3, 7.1); the premise rules out an
INIT that no start leaves. -/
def Obligations.TimersSoundKept : Prop :=
  ∀ s t : State, s.InitQuiet → s.TimersSound → step s = .next t → t.TimersSound

/-- Zones, doors and screen channels stay within their ranges: integral within the selected profile's limit (R72), debt
within the debt limit (R94), effective level at least the condition level (R109). -/
def Obligations.ClimateBoundsKept : Prop :=
  ∀ s t : State, step s = .next t →
    (s.ZonesBounded → t.ZonesBounded) ∧ (s.DoorsBounded → t.DoorsBounded) ∧ (s.ScreensLevelled → t.ScreensLevelled)

/-- In every publication the sum of all grants is at most its ceiling, and no ceiling exceeds 1500 (R129, R131). -/
def Obligations.GrantsBoundedKept : Prop :=
  ∀ s t : State, s.GrantsBounded → step s = .next t → t.GrantsBounded

/-- While the copy of the last publication holds BREAK or HELD, every conditioning output is 0 (R144). -/
def Obligations.ConditioningCutKept : Prop :=
  ∀ s t : State, s.ConditioningCut → step s = .next t → t.ConditioningCut

/-- The outputs draw no more than the grants of the last publication taken (R142): in sum through every step, and source by
source through every step that leaves the zone, door and screen tables as they are (an activation of one of them changes
which source an output belongs to from the next fill onwards, R151). -/
def Obligations.DrawBoundedKept : Prop :=
  (∀ s t : State, s.DrawBounded → step s = .next t → t.DrawBounded) ∧
  ∀ s t : State, s.SourcesBounded → step s = .next t → t.tables.zones = s.tables.zones →
    t.tables.doors = s.tables.doors → t.tables.screens = s.tables.screens → t.SourcesBounded

/-- The stack keeps to 4 entries, no preset twice, valid presets only, and empty in STANDBY (R153, R155, R159, R160). -/
def Obligations.StackSoundKept : Prop :=
  ∀ s t : State, s.InitQuiet → s.StackSound → step s = .next t → t.StackSound

/-! ### Ports -/

/-- FRAME_RECEPTION and RX_ERROR (R1, R2, R4, R12, R16): on the bus a frame is appended and counted, or overruns a full
FIFO; an error is counted; off the bus nothing happens. -/
def Obligations.ReceptionQueuesOrOverruns : Prop :=
  ∀ (p : PortId) (f : Frame) (s : State), f.wellFormed = true →
    (s.phase = .running → (s.port p).err ≠ .busOff →
      ((s.port p).rx.length < 32 → exec (.frameReception p f) s = .next (s.setPort p { s.port p with
        rx := (s.port p).rx ++ [f]
        counters := { (s.port p).counters with rxAccepted := min 65535 ((s.port p).counters.rxAccepted + 1) } })) ∧
      (32 ≤ (s.port p).rx.length → exec (.frameReception p f) s =
        .next (raise (match p with
            | .bp => .bpOverrun
            | .fp => .fpOverrun)
          (s.setPort p { s.port p with
            counters := { (s.port p).counters with overrun := min 65535 ((s.port p).counters.overrun + 1) } }))) ∧
      exec (.rxError p) s = .next (s.setPort p { s.port p with
        counters := { (s.port p).counters with rxError := min 65535 ((s.port p).counters.rxError + 1) } })) ∧
    (s.phase = .init ∨ (s.port p).err = .busOff →
      exec (.frameReception p f) s = .next s ∧ exec (.rxError p) s = .next s)

/-- The flags' bits (10.5), the event report (R173, R177), and setting a flag (R172, R173): the report is a STANDARD DATA frame
on MB + 2 with all 22 flags, the climate state, the supply state and the start cause as they stand; a set flag changes
nothing; a newly set one that is not enabled changes only the flags; a newly set and enabled one also puts the report of all
flags into BP URGENT, and where that put is dropped TX_DROP is set. -/
def Obligations.RaiseSetsAndReports : Prop :=
  ([Flag.start, .bpOverrun, .fpOverrun, .txDrop, .busOff, .lengthShort, .slotImplausible, .slotStale, .zoneFallback,
      .doorFault, .screenFog, .supplyBreak, .supplyHeld, .longBreak, .budgetShort, .outputFault, .overrideDiscard,
      .deskReject, .loadDone, .loadFailed, .imageInvalid, .climateState].map Flag.mask
      = (List.range 22).map fun n => BitVec.ofNat 22 (2 ^ n)) ∧
  (∀ (w : BitVec 22) (f : Flag), hasFlag w f = true ↔ w &&& f.mask = f.mask) ∧
  (∀ (w : BitVec 22) (s : State), eventReport s w =
    { frame := { ident := .standard (s.classifier.mb + 2), kind := .data, lengthCode := 8
                 data := [BitVec.ofNat 8 w.toNat, BitVec.ofNat 8 (w.toNat / 256), BitVec.ofNat 8 (w.toNat / 65536),
                   match s.regulator.climate with
                    | .standby => 0
                    | .active => 1,
                   match s.supply.state with
                    | .onLine => 0
                    | .breaking => 1
                    | .held => 2
                    | .resuming => 3
                    | .offWire => 4,
                   match s.mgmt.cause with
                    | .power => 0
                    | .command => 1,
                   0, 0] }
      origin := .eventReport }) ∧
  ∀ (f : Flag) (s : State),
    (hasFlag s.mgmt.flags f = true → raise f s = s) ∧
    (hasFlag s.mgmt.flags f = false →
      hasFlag (raise f s).mgmt.flags f = true ∧
      (hasFlag s.mgmt.enables f = false →
        raise f s = { s with mgmt := { s.mgmt with flags := s.mgmt.flags ||| f.mask } }) ∧
      (hasFlag s.mgmt.enables f = true → s.bp.outcome .urgent .eventReport ≠ .dropped →
        raise f s = { s with
          bp := s.bp.put .urgent (eventReport s (s.mgmt.flags ||| f.mask))
          mgmt := { s.mgmt with flags := s.mgmt.flags ||| f.mask } }) ∧
      (hasFlag s.mgmt.enables f = true → s.bp.outcome .urgent .eventReport = .dropped →
        (raise f s).mgmt = { s.mgmt with flags := s.mgmt.flags ||| f.mask ||| Flag.txDrop.mask } ∧
        (raise f s).bp.urgent = s.bp.urgent ∧ (raise f s).bp.control = s.bp.control ∧
        (raise f s).bp.bulk = s.bp.bulk))

/-- A put (R5, R6, R12): dropped on a BUS_OFF port; coalesced into the queued frame of its origin, in place; appended where
there is room; dropped and counted otherwise. Other queues and the frame on offer are not touched. That a command frame's
identifier and length are replaced with its data is log 39. -/
def Obligations.PutMeetsPort : Prop :=
  ∀ (p : Port) (c : TxClass) (x : QueuedFrame),
    (p.err = .busOff → p.outcome c x.origin = .dropped) ∧
    (p.err ≠ .busOff → x.origin.coalesces = true → (∃ q ∈ p.queue c, q.origin = x.origin) →
      p.outcome c x.origin = .coalesced ∧ ((p.put c x).queue c).length = (p.queue c).length ∧
      ∀ (i : Nat) (q : QueuedFrame), (p.queue c)[i]? = some q →
        ((p.put c x).queue c)[i]? = some (if q.origin = x.origin then x else q)) ∧
    (p.err ≠ .busOff → ¬(x.origin.coalesces = true ∧ ∃ q ∈ p.queue c, q.origin = x.origin) →
      ((p.queue c).length < (match c with
          | .urgent => 8
          | .control => 16
          | .bulk => 16) →
        p.outcome c x.origin = .accepted ∧ (p.put c x).queue c = p.queue c ++ [x]) ∧
      ((match c with
          | .urgent => 8
          | .control => 16
          | .bulk => 16) ≤ (p.queue c).length → p.outcome c x.origin = .dropped)) ∧
    (p.outcome c x.origin = .dropped →
      p.put c x = { p with counters := { p.counters with txDrop := min 65535 (p.counters.txDrop + 1) } }) ∧
    (p.outcome c x.origin ≠ .dropped → (p.put c x).counters = p.counters) ∧
    (∀ c', c' ≠ c → (p.put c x).queue c' = p.queue c') ∧ (p.put c x).offer = p.offer ∧ (p.put c x).rx = p.rx ∧
    (p.put c x).err = p.err ∧ (p.put c x).tec = p.tec

/-- TRANSMIT_ATTEMPT and ARBITRATION_LOST (R7): strict priority URGENT, CONTROL, BULK; losing arbitration changes nothing but
that no frame is on offer. -/
def Obligations.AttemptOffersByPriority : Prop :=
  ∀ (p : PortId) (s : State),
    (s.phase = .running → (s.port p).err ≠ .busOff → (s.port p).offer = none →
      exec (.transmitAttempt p) s = .next (s.setPort p { s.port p with
        offer := match (s.port p).urgent, (s.port p).control, (s.port p).bulk with
          | x :: _, _, _ => some { cls := .urgent, carried := x }
          | [], x :: _, _ => some { cls := .control, carried := x }
          | [], [], x :: _ => some { cls := .bulk, carried := x }
          | [], [], [] => none })) ∧
    exec (.arbitrationLost p) s = .next (s.setPort p { s.port p with offer := none })

/-- TRANSMIT_COMPLETE (R8, R10, R150): the head leaves its queue, the error count falls by 1, TX_SENT rises, and a command
frame's entry takes the content that the attempt carried. -/
def Obligations.CompletionSendsHead : Prop :=
  ∀ (p : PortId) (o : Offer) (x : QueuedFrame) (rest : List QueuedFrame) (s : State),
    (s.port p).offer = some o → (s.port p).queue o.cls = x :: rest →
    let sent : Port := { (s.port p).setQueue o.cls rest with
      offer := none
      tec := (s.port p).tec - 1
      err := if (s.port p).tec - 1 ≤ 127 then .active else if (s.port p).tec - 1 ≤ 255 then .passive else .busOff
      counters := { (s.port p).counters with txSent := min 65535 ((s.port p).counters.txSent + 1) } }
    (o.carried.origin = .forwarded ∨ o.carried.origin = .eventReport ∨ o.carried.origin = .reply false →
      exec (.transmitComplete p) s = .next (s.setPort p sent)) ∧
    (∀ n, o.carried.origin = .commandFrame n →
      exec (.transmitComplete p) s =
        .next ((s.setPort p sent).setSchedule n { s.schedule n with lastSent := some o.carried.frame.data }))

/-- TRANSMIT_ERROR and BUS_OFF_HOLD_EXPIRY (R9 to R11, R13): the count rises by 8; below 256 the frame is kept for another
attempt; at 256 the port flushes its queues, counts them, sets BUS_OFF and holds 100 ms, after which it is ACTIVE with
count 0. What BP's BUS_OFF does to a pending switch (R171) is PendingSwitchCarriedOut's. That the hold's command takes the
clock to the timer's end is the model's (log 1, log 2). -/
def Obligations.TransmitErrorCountsToBusOff : Prop :=
  ∀ (p : PortId) (s : State),
    (∀ o, (s.port p).offer = some o →
      ((s.port p).tec + 8 ≤ 255 → exec (.transmitError p) s = .next (s.setPort p { s.port p with
        offer := none
        tec := (s.port p).tec + 8
        err := if (s.port p).tec + 8 ≤ 127 then .active else .passive
        counters := { (s.port p).counters with txError := min 65535 ((s.port p).counters.txError + 1) } })) ∧
      (256 ≤ (s.port p).tec + 8 → p = .fp ∨ s.mgmt.switch = none →
        exec (.transmitError p) s = .next (raise .busOff (s.setPort p { s.port p with
          urgent := []
          control := []
          bulk := []
          offer := none
          tec := 256
          err := .busOff
          hold := some (s.now + 100)
          counters := { (s.port p).counters with
            txError := min 65535 ((s.port p).counters.txError + 1)
            flushed := min 65535 ((s.port p).counters.flushed
              + ((s.port p).urgent.length + (s.port p).control.length + (s.port p).bulk.length))
            busOffEpisodes := min 65535 ((s.port p).counters.busOffEpisodes + 1) } })))) ∧
    (∀ d, (s.port p).hold = some d →
      exec (.busOffHoldExpiry p) s =
        .next (({ s with now := max s.now d }).setPort p { s.port p with tec := 0, err := .active, hold := none }))

/-! ### Classifier -/

/-- FRAME_CLASSIFY takes the head of the port whose turn it is (R3, R17): the other port when both have frames. It touches
ports, hand-offs, captured frames and flags alone. -/
def Obligations.ClassifierTakesTurns : Prop :=
  ∀ (p : PortId) (f : Frame) (rest : List Frame) (s : State), s.phase = .running → (s.port p).rx = f :: rest →
    ((s.port p.other).rx = [] ∨ s.classifier.lastServed = p.other) →
    ∃ t, exec .frameClassify s = .next t ∧ (t.port p).rx = rest ∧ (t.port p.other).rx = (s.port p.other).rx ∧
      t = { s with
        bp := t.bp
        fp := t.fp
        classifier := { s.classifier with lastServed := p }
        binder := t.binder
        overrides := { s.overrides with handOffs := t.overrides.handOffs }
        mgmt := { s.mgmt with captured := t.mgmt.captured, flags := t.mgmt.flags } }

/-- Capture (R20): a STANDARD DATA frame from BP with identifier MB or MB + 3 is handed whole to the management unit and
nothing else is done with it; no other frame is captured. -/
def Obligations.ClassifierCaptures : Prop :=
  ∀ (p : PortId) (f : Frame) (rest : List Frame) (s : State), s.phase = .running → (s.port p).rx = f :: rest →
    ((s.port p.other).rx = [] ∨ s.classifier.lastServed = p.other) →
    let taken := (s.setPort p { s.port p with rx := rest }).setClassifier { s.classifier with lastServed := p }
    (p = .bp → f.ident = .standard s.classifier.mb → f.kind = .data →
      exec .frameClassify s = .next
        { taken with mgmt := { s.mgmt with captured := s.mgmt.captured ++ [.request f.data] } }) ∧
    (p = .bp → f.ident = .standard (s.classifier.mb + 3) → f.kind = .data →
      exec .frameClassify s = .next
        { taken with mgmt := { s.mgmt with captured := s.mgmt.captured ++ [.loadData f.data] } }) ∧
    (¬(p = .bp ∧ f.kind = .data ∧
        (f.ident = .standard s.classifier.mb ∨ f.ident = .standard (s.classifier.mb + 3))) →
      ∃ t, exec .frameClassify s = .next t ∧ t.mgmt.captured = s.mgmt.captured)

/-- A frame without an entry (R19, R23, R27 to R30): EXTENDED or REMOTE, or matched by no entry, it takes its port's default
disposition and urgency: forwarded whole into the other port's queue of its class, dropped, or yielded in ACTIVE. -/
def Obligations.ClassifierAppliesDefaults : Prop :=
  ∀ (p : PortId) (f : Frame) (rest : List Frame) (s : State), s.phase = .running → (s.port p).rx = f :: rest →
    ((s.port p.other).rx = [] ∨ s.classifier.lastServed = p.other) →
    (f.kind = .remote ∨ (∃ e, f.ident = .extended e) ∨
      ∃ i, f.ident = .standard i ∧ ¬(p = .bp ∧ (i = s.classifier.mb ∨ i = s.classifier.mb + 3)) ∧
        ∀ k, k < 128 → (frameEntry s.tables k).matchesFrame p i = false) →
    let taken := (s.setPort p { s.port p with rx := rest }).setClassifier { s.classifier with lastServed := p }
    let forwarded := putFrame p.other (classMapCell s.tables p.other (defaultUrgency s.tables p))
      { frame := f, origin := .forwarded } taken
    (defaultDisposition s.tables p = .forward → exec .frameClassify s = .next forwarded) ∧
    (defaultDisposition s.tables p = .drop → exec .frameClassify s = .next taken) ∧
    (defaultDisposition s.tables p = .yield →
      exec .frameClassify s = .next (if s.regulator.climate = .standby then forwarded else taken))

/-- A frame with an entry (R22, R24 to R30): the first matching entry decides. Long enough, its data is handed to binder and
desk decoder as the entry asks; too short, it is counted and flagged and not handed. Either way it is then forwarded
whole, by a put that R5, R6 and R12 decide and that sets TX_DROP when it is DROPPED, or discarded. -/
def Obligations.ClassifierAppliesEntry : Prop :=
  (∀ (q : PortId) (c : TxClass) (x : QueuedFrame) (u : State),
    let put := u.setPort q ((u.port q).put c x)
    putFrame q c x u = if (u.port q).outcome c x.origin = .dropped then raise .txDrop put else put) ∧
  ∀ (p : PortId) (f : Frame) (rest : List Frame) (i : BitVec 11) (k : Nat) (s : State),
    s.phase = .running → (s.port p).rx = f :: rest →
    ((s.port p.other).rx = [] ∨ s.classifier.lastServed = p.other) →
    f.kind = .data → f.ident = .standard i → ¬(p = .bp ∧ (i = s.classifier.mb ∨ i = s.classifier.mb + 3)) →
    k < 128 → (frameEntry s.tables k).matchesFrame p i = true →
    (∀ j, j < k → (frameEntry s.tables j).matchesFrame p i = false) →
    let e := frameEntry s.tables k
    let cls := classMapCell s.tables p.other e.urgency
    let passes := e.disposition = .forward ∨ (e.disposition = .yield ∧ s.regulator.climate = .standby)
    let taken := (s.setPort p { s.port p with rx := rest }).setClassifier { s.classifier with lastServed := p }
    let handed : State := { taken with
      binder := s.binder ++ (if e.consume = true ∧ e.bindingCount ≠ 0 then
        [{ data := f.data, port := p, first := e.firstBinding, count := e.bindingCount }] else [])
      overrides := { s.overrides with
        handOffs := s.overrides.handOffs ++ (if e.desk = true then [f.data] else []) } }
    let short := raise .lengthShort (taken.setPort p { taken.port p with
      counters := { (s.port p).counters with lengthShort := min 65535 ((s.port p).counters.lengthShort + 1) } })
    let dealt := if e.minimumLength ≤ f.data.length then handed else short
    exec .frameClassify s =
      .next (if passes then putFrame p.other cls { frame := f, origin := .forwarded } dealt else dealt)

/-! ### Binder and sample store -/

/-- Where a field's bits lie (R36, R37): bit j from the top of a LOW-FIRST field is frame bit start + length - 1 - j; a
HIGH-FIRST field runs down its byte and on at bit 7 of the next. A field with a bit beyond frame bit 63 fits no frame. -/
def Obligations.FieldBitsLocated : Prop :=
  ∀ (b : Binding) (data : List Byte),
    b.fieldBits.length = b.length ∧
    (∀ j, j < b.length → b.highFirst = false → b.fieldBits[j]? = some (b.startBit + (b.length - 1 - j))) ∧
    (∀ j, j < b.length → b.highFirst = true →
      let q := 8 * (b.startBit / 8) + (7 - b.startBit % 8) + j
      b.fieldBits[j]? = some (8 * (q / 8) + (7 - q % 8))) ∧
    (∀ i ∈ b.fieldBits, (64 ≤ i ∨ data.length ≤ i / 8) → b.fits data = false)

/-- BINDER_RUN (R35, R38 to R40, R51): the oldest hand-off is taken and its bindings are run in ascending index, each on the
state the one before left. A binding of length 0 or above 16 does nothing; one that reaches past the data counts
LENGTH_SHORT; any other writes floor(raw × scale ÷ 2^shift) + offset, saturated, raw being the field's bits in the order of
R36 and R37. A slot byte above 95 writes nothing (log 36). Of the doors only waiting notices change. -/
def Obligations.BinderRunsHandOff : Prop :=
  (∀ (b : Binding) (data : List Byte),
    (b.fits data = true ↔ ∀ i ∈ b.fieldBits, i < 64 ∧ i / 8 < data.length) ∧
    b.unsignedField data = ((List.range b.length).map fun j =>
      (data.getD (b.fieldBits.getD j 0 / 8) 0).toNat / 2 ^ (b.fieldBits.getD j 0 % 8) % 2 * 2 ^ (b.length - 1 - j)).sum) ∧
  ∀ (h : HandOff) (rest : List HandOff) (s : State), s.binder = h :: rest →
    let run (u : State) (k : Nat) : State :=
      let b := Binding.ofRec (record u.tables .bindings k)
      let n : Int := b.unsignedField h.data
      let raw : Int := if b.signed = true ∧ 2 ^ (b.length - 1) ≤ n then n - 2 ^ b.length else n
      if b.length = 0 ∨ 16 < b.length ∨ 96 ≤ b.slot then u
      else if b.fits h.data = true then
        writeSlot b.slot (max (-32768) (min 32767 (raw * b.scale / 2 ^ b.shift + b.offset))) u
      else raise .lengthShort (u.setPort h.port { u.port h.port with
        counters := { (u.port h.port).counters with
          lengthShort := min 65535 ((u.port h.port).counters.lengthShort + 1) } })
    ∃ t, exec .binderRun s = .next t ∧
      t = ((List.range h.count).map (h.first + ·)).foldl run { s with binder := rest } ∧
      t = { s with
        freeIndex := t.freeIndex
        bp := t.bp
        fp := t.fp
        binder := rest
        slots := t.slots
        regulator := { s.regulator with notices := t.regulator.notices }
        doors := { s.doors with doors := t.doors.doors }
        supply := { s.supply with notices := t.supply.notices }
        mgmt := { s.mgmt with flags := t.mgmt.flags } } ∧
      (t.doors.doors.map fun l => { l with notices := [] }) = s.doors.doors.map fun l => { l with notices := [] }

/-- A write into a slot (R41 to R43, R48, R49, R50): plausible, the slot is FRESH with the value, its timer restarts, a STATE
slot takes a changed reference, and every watcher named by the live records gets its notice behind those it holds;
implausible, the slot is IMPLAUSIBLE, counted and flagged, and a line voltage slot that was FRESH sends a leave notice.
Nothing else changes. Two notices to one watcher stand in either order (log 7). -/
def Obligations.WriteMovesSlot : Prop :=
  ∀ (i : Nat) (v : Int) (s : State), i < s.slots.length →
    let g := globals s.tables
    let c := slotCfg s.tables i
    let l := s.slot i
    let change := c.kind = .state ∧ l.reference ≠ some v
    let ok := c.min ≤ v ∧ v ≤ c.max ∧ c.kind.range.1 ≤ v ∧ v ≤ c.kind.range.2
    let t := writeSlot i v s
    (ok →
      let pole : List SupplyNotice := if g.poleSlot = some i ∧ change then [.poleChange i v] else []
      let line : List SupplyNotice := if g.lineSlot = some i then [.lineWrite i v (decide change)] else []
      t = { s with
        freeIndex := s.freeIndex + 1
        slots := s.slots.set i
          { state := .fresh, lastWritten := some v, lastGood := some v
            timer := if c.timeout = 0 then none else some (s.now + 10 * c.timeout)
            reference := if change then some v else l.reference
            implausible := l.implausible }
        regulator := { s.regulator with
          notices := s.regulator.notices ++
            (if g.modeSlot = some i ∧ change then [{ slot := i, value := v, change := true }] else []) }
        supply := { s.supply with notices := t.supply.notices }
        doors := { s.doors with doors := t.doors.doors } } ∧
      (t.supply.notices = s.supply.notices ++ (pole ++ line) ∨ t.supply.notices = s.supply.notices ++ (line ++ pole)) ∧
      t.doors.doors.length = s.doors.doors.length ∧
      ∀ (d : Nat) (x : DoorLive), s.doors.doors[d]? = some x →
        let r := doorCfg s.tables d
        let opening : List DoorNotice :=
          if r.valid = true ∧ r.openSlot = some i then [.doorOpen i v (decide change)] else []
        let release : List DoorNotice :=
          if r.valid = true ∧ r.releaseSlot = some i ∧ change then [.release i v] else []
        t.doors.doors[d]? = some { x with notices := x.notices ++ (opening ++ release) } ∨
        t.doors.doors[d]? = some { x with notices := x.notices ++ (release ++ opening) }) ∧
    (¬ok →
      let moved := raise .slotImplausible { s with
        slots := s.slots.set i
          { l with state := .implausible, lastWritten := some v, timer := none
                   implausible := min 65535 (l.implausible + 1) } }
      t = { moved with
        supply := { s.supply with
          notices := s.supply.notices ++
            (if l.state = .fresh ∧ g.lineSlot = some i then
              [.lineLeave i .implausible (moved.read (some i)).1 (moved.read (some i)).2] else []) } })

/-- STALENESS_EXPIRY (R44, R50): the slot is STALE, its values and reference kept, SLOT_STALE set; the line voltage slot sends
a leave notice with the effective value and the quality that it now reads; nothing else changes but what the flag's report
does. That the command takes the clock to the timer's end is the model's (log 1, log 2). -/
def Obligations.StalenessExpires : Prop :=
  ∀ (i : Fin 96) (d : Nat) (s : State), s.slots.length = 96 → (s.slot i).timer = some d →
    let moved := raise .slotStale { s with
      now := max s.now d
      slots := s.slots.set i { s.slot i with state := .stale, timer := none } }
    exec (.stalenessExpiry i) s = .next { moved with
      supply := { s.supply with
        notices := s.supply.notices ++
          (if (globals s.tables).lineSlot = some i.val then
            [.lineLeave i .stale (moved.read (some i.val)).1 (moved.read (some i.val)).2] else []) } } ∧
    hasFlag moved.mgmt.flags .slotStale = true

/-- Effective value and quality (R45, R46): by state and policy, with at most one substitution, and FALLBACK for a policy
coding that names none. -/
def Obligations.EffectiveValueRead : Prop :=
  (∀ r : Rec, (SlotCfg.ofRec r).policy =
    (if u8 r 1 = 0 then .hold else if u8 r 1 = 2 then .substitute else .fallback)) ∧
  ∀ (t : Tables) (slots : List SlotLive) (i : Nat),
    let c := slotCfg t i
    let l := slots.getD i {}
    let lapsed := l.state = .stale ∨ l.state = .implausible
    (l.state = .never → effective t slots (some i) = (c.fallback, .none)) ∧
    (∀ v, l.state = .fresh → l.lastGood = some v → effective t slots (some i) = (v, .good)) ∧
    (∀ v, lapsed → c.policy = .hold → l.lastGood = some v → effective t slots (some i) = (v, .degraded)) ∧
    (lapsed → c.policy = .hold → l.lastGood = none → effective t slots (some i) = (c.fallback, .none)) ∧
    (lapsed → c.policy = .fallback → effective t slots (some i) = (c.fallback, .none)) ∧
    (∀ j v, lapsed → c.policy = .substitute → c.substitute = some j → (slots.getD j {}).state = .fresh →
      (slots.getD j {}).lastGood = some v → effective t slots (some i) = (v, .degraded)) ∧
    (∀ j, lapsed → c.policy = .substitute → c.substitute = some j → (slots.getD j {}).state ≠ .fresh →
      effective t slots (some i) = (c.fallback, .none)) ∧
    (lapsed → c.policy = .substitute → c.substitute = none → effective t slots (some i) = (c.fallback, .none))

/-! ### Zone regulator -/

/-- VEHICLE_MODE_NOTICE (R57 to R60, R62), and the derivation that it shares with an activation (R61): the climate state and
the vehicle mode follow the value, and each valid zone's profile is selected anew, a changed one clamping the integral; a
change of climate state sets CLIMATE_STATE, clears the valid zones at STANDBY and tells the four blocks; without a change
nobody is told, and nothing else changes. That a zone cleared at STANDBY keeps its override mode in force, which R59 does
not name, is log 14; that the blocks are told by notices which they take later is log 3. -/
def Obligations.ModeNoticeDerivesClimate : Prop :=
  (∀ (m : Int) (s : State),
    let c : Climate := if 1 ≤ m ∧ m ≤ 4 then .active else .standby
    ∃ mode : VehicleMode, (mode.code : Int) = (if 1 ≤ m ∧ m ≤ 4 then m else 0) ∧
      (let derived : State := { s with regulator := { s.regulator with
        climate := c
        mode := mode
        zones := s.regulator.zones.mapIdx fun z l =>
          if (zoneCfg s.tables z).valid = true then
            let kept : ZoneLive := if c = .standby ∧ s.regulator.climate = .active then
              { l with
                condition := .idle, integral := 0, rawDemand := 0, demand := 0, blower := 0, damper := 0
                request := 0, storageRequest := 0, hold := none }
              else l
            let p := if 1 ≤ m ∧ m ≤ 4 then (zoneCfg s.tables z).profileMap.getD (m - 1).toNat 0 else l.profile
            let top := (profileCfg s.tables z p).integralLimit
            { kept with
              profile := p
              integral := if p = l.profile then kept.integral else max (-top) (min top kept.integral) }
          else l } }
       (c = s.regulator.climate → deriveClimate m s = derived) ∧
       (c ≠ s.regulator.climate → deriveClimate m s = { raise .climateState derived with
          doors := { s.doors with climateNotices := s.doors.climateNotices ++ [c] }
          screens := { s.screens with climateNotices := s.screens.climateNotices ++ [c] }
          overrides := { s.overrides with climateNotices := s.overrides.climateNotices ++ [c] }
          composer := { s.composer with climateNotices := s.composer.climateNotices ++ [c] } }))) ∧
  ∀ (n : ModeNotice) (rest : List ModeNotice) (s : State), s.regulator.notices = n :: rest →
    exec .vehicleModeNotice s =
      .next (deriveClimate n.value { s with regulator := { s.regulator with notices := rest } })

/-- The outdoor curve (R64), its points ascending: below the first point y0, from the last on y7, and on a segment the floored
interpolation. -/
def Obligations.CurveInterpolates : Prop :=
  ∀ (t : Tables) (o : Int), (∀ i, i < 7 → curveX t i < curveX t (i + 1)) →
    (o < curveX t 0 → curveValue t o = curveY t 0) ∧
    (curveX t 7 ≤ o → curveValue t o = curveY t 7) ∧
    (∀ i, i < 7 → curveX t i ≤ o → o < curveX t (i + 1) →
      curveValue t o = curveY t i
        + (o - curveX t i) * (curveY t (i + 1) - curveY t i) / (curveX t (i + 1) - curveX t i)) ∧
    -50 ≤ curveValue t o ∧ curveValue t o ≤ 50

/-- ZONE_STEP of a REGULATING zone in ACTIVE (R63, R68 to R73): the PI law, the six conditions that freeze the integral, limits,
enables and mode, and the step timer's restart. Setpoint, temperature and the stages after the law are ZoneFallsBackOrStandsBy's.
That the command takes the clock to the timer's end is the model's (log 1, log 2). -/
def Obligations.ZoneStepRegulates : Prop :=
  ∀ (z : Fin 8) (d : Nat) (s : State), s.regulator.zones.length = 8 → s.regulator.climate = .active →
    (s.zone z).step = some d → (zoneTemperature s z).1 ≠ .none →
    let l := s.zone z
    let p := profileCfg s.tables z l.profile
    let mode := if (zoneCfg s.tables z).cls = .cab then s.override.cabMode else s.override.saloonMode
    let supply := s.composer.copy.supply
    let ff : Nat := min 400 (((List.range 6).map fun k =>
      if (doorCfg s.tables k).valid = true ∧ (doorCfg s.tables k).primaryZone = z then (s.door k).ff else 0).sum)
    ∃ t, exec (.zoneStep z) s = .next t ∧
      t = { s with
        now := max s.now d
        regulator := { s.regulator with zones := s.regulator.zones.set z (t.zone z) } } ∧
      (t.zone z).condition = .regulating ∧ (t.zone z).profile = l.profile ∧ (t.zone z).hold = l.hold ∧
      (t.zone z).unpublished = l.unpublished ∧
      (t.zone z).step = some (max s.now d + 1000) ∧ (t.zone z).mode = mode ∧
      50 ≤ (t.zone z).setpoint ∧ (t.zone z).setpoint ≤ 300 ∧
      (let e := max (-500) (min 500 ((t.zone z).setpoint - (t.zone z).temp))
       let used := if -p.deadband ≤ e ∧ e ≤ p.deadband then 0 else if 0 < e then e - p.deadband else e + p.deadband
       let prop := p.kp * used / 8
       let inc := p.ki * used / 32
       let limited := (s.composer.copy.zones.getD z {}).limited = true ∧
         ((0 < l.demand ∧ 0 < inc) ∨ (l.demand < 0 ∧ inc < 0))
       let frozen := (1000 < l.rawDemand ∧ 0 < inc) ∨ (l.rawDemand < -1000 ∧ inc < 0) ∨ limited ∨
         supply = .breaking ∨ supply = .held ∨ supply = .resuming ∨
         (inc < 0 ∧ l.hold.isSome = true) ∨ mode = .ventOnly
       let i := max (-p.integralLimit) (min p.integralLimit (if frozen then l.integral else l.integral + inc))
       let raw := max (-32768) (min 32767 (prop + i / 16 + ff))
       let dem := max (-1000) (min 1000 raw)
       let enabled := if (0 < dem ∧ p.heatEnable = false) ∨ (dem < 0 ∧ p.coolEnable = false) then 0 else dem
       (mode = .normal → (t.zone z).integral = i ∧ (t.zone z).rawDemand = raw ∧ (t.zone z).demand = enabled) ∧
       (mode = .ventOnly → (t.zone z).integral = i ∧ (t.zone z).rawDemand = 0 ∧ (t.zone z).demand = 0) ∧
       (mode = .off → (t.zone z).integral = 0 ∧ (t.zone z).rawDemand = 0 ∧ (t.zone z).demand = 0)) ∧
      (supply.cut = true → (t.zone z).request ≤ blowerRated s z)

/-- ZONE_STEP in either climate state but for the PI law, which is ZoneStepRegulates' (R63 to R67, R73 to R78), and
STORAGE_HOLD_EXPIRY (R70): setpoint, tier and temperature; the fallback demand of a zone without a usable sensor; and,
formed from the stored demand, blower, damper, request and storage request. In STANDBY only the setpoint and temperature
stages act. That a timer's command takes the clock to its end is the model's (log 1, log 2), as is the mark of R100 (log
29). That a step in STANDBY keeps the override mode in force is log 14; that an output's rated power is taken as its record
has it is log 28; that a storage request takes the copy's class grant as its G, of whatever class, is log 45. -/
def Obligations.ZoneFallsBackOrStandsBy : Prop :=
  ∀ (z : Fin 8) (d : Nat) (s : State), s.regulator.zones.length = 8 →
    let l := s.zone z
    let c := zoneCfg s.tables z
    let p := profileCfg s.tables z l.profile
    let o := s.override
    let mode := if c.cls = .cab then o.cabMode else o.saloonMode
    let copy := s.composer.copy
    let cut := copy.supply = .breaking ∨ copy.supply = .held
    let knob := s.read c.knob
    let terms := p.base + curveValue s.tables (s.read (globals s.tables).outdoorSlot).1 * p.curveGain / 16
    let sp := max 50 (min 300 (if c.cls = .cab then
        terms + o.cabOffset + (if knob.2 = .none then 0 else max (-30) (min 30 knob.1))
      else terms + o.saloonOffset))
    let inUse := c.sensors.filter fun e => decide (e.2 ≠ 0)
    let reads (q : Quality) (e : Option Nat × Nat) : Bool := decide ((s.read e.1).2 = q)
    let tier : Quality := if inUse.any (reads .good) = true then .good
      else if inUse.any (reads .degraded) = true then .degraded else .none
    let best := inUse.filter (reads tier)
    let weight : Nat := (best.map fun e => e.2).sum
    let temp : Int := if inUse = [] then 0
      else max (-400) (min 850 ((best.map fun e => (e.2 : Int) * (s.read e.1).1).sum / weight))
    let imposes (k : Nat) : Prop := (screenCfg s.tables k).valid = true ∧
      ((s.screen k).condition = .fogging ∨ (s.screen k).condition = .ice)
    let counted (k : Nat) : Prop := (s.output k).failed = false ∧ (s.output k).forced = none
    let rated (fn : OutputFn) : Nat := ((List.range 48).map fun k =>
      if role s.tables k = some (.conditioning z) ∧ (outputCfg s.tables k).function = some fn ∧ counted k then
        (outputCfg s.tables k).rated else 0).sum
    let blowing : Nat := match c.blowerOutput with
      | some k => if role s.tables k = some (.zoneBlower z) ∧ counted k then (outputCfg s.tables k).rated else 0
      | none => 0
    ((s.zone z).step = some d →
      ∃ t, exec (.zoneStep z) s = .next t ∧
        (let n := t.zone z
         let vent := blowing * n.blower / 1000
         n.setpoint = sp ∧ n.temp = temp ∧ n.tier = tier ∧ n.step = some (max s.now d + 1000) ∧
         n.profile = l.profile ∧ n.hold = l.hold ∧ n.unpublished = l.unpublished ∧
         (s.regulator.climate = .standby →
           n = { l with setpoint := sp, temp := temp, tier := tier, step := some (max s.now d + 1000) } ∧
           t.mgmt = s.mgmt ∧ t.bp = s.bp) ∧
         (s.regulator.climate = .active →
           n.condition = (if tier = .none then .fallback else .regulating) ∧ n.mode = mode ∧
           (tier = .none →
             let dem := if (0 < c.fallbackDemand ∧ p.heatEnable = false) ∨ (c.fallbackDemand < 0 ∧ p.coolEnable = false)
               then 0 else c.fallbackDemand
             n.demand = (if mode = .normal then dem else 0) ∧ n.rawDemand = n.demand ∧
             n.integral = (if mode = .off then 0 else l.integral)) ∧
           (tier = .none → l.condition ≠ .fallback → hasFlag t.mgmt.flags .zoneFallback = true) ∧
           (tier ≠ .none ∨ l.condition = .fallback → t.mgmt = s.mgmt ∧ t.bp = s.bp) ∧
           n.blower = min 1000 (max
             (max (if mode = .off then 0
               else c.blowerMin + (max c.blowerMin c.blowerMax - c.blowerMin) * n.demand.natAbs / 1000) o.blowerFloor)
             (if c.cls = .cab then
               max (if imposes 0 then (screenCfg s.tables 0).blowerFloor else 0)
                 (if imposes 1 then (screenCfg s.tables 1).blowerFloor else 0)
              else 0)) ∧
           n.damper = (if c.cls = .cab ∧ (imposes 0 ∨ imposes 1) then 1000
             else match o.recirculation with
               | .auto => p.freshAir
               | .fresh => 1000
               | .recirc => 0) ∧
           n.request = min 1500 (vent + (if cut then 0
             else if 0 < n.demand then n.demand.natAbs * rated .heat / 1000
             else n.demand.natAbs * rated .cool / 1000)) ∧
           n.storageRequest = (if c.cls = .saloon ∧ c.sect ≠ .joint ∧ 0 < p.storageBand ∧ tier ≠ .none ∧ mode = .normal ∧
               p.heatEnable = true ∧ 0 ≤ n.demand ∧ (copy.supply = .onLine ∨ copy.supply = .offWire) ∧ 0 < copy.surplus ∧
               temp < sp + p.storageBand then
             min 1500 (rated .heat - ((copy.zones.getD z {}).grant - vent)) else 0))) ∧
        t = { s with
          now := max s.now d
          bp := t.bp
          regulator := { s.regulator with zones := s.regulator.zones.set z (t.zone z) }
          mgmt := { s.mgmt with flags := t.mgmt.flags } }) ∧
    ((s.zone z).hold = some d →
      exec (.storageHoldExpiry z) s = .next { s with
        now := max s.now d
        regulator := { s.regulator with zones := s.regulator.zones.set z { s.zone z with hold := none } } })

/-! ### Doors -/

/-- DOOR_PERIOD (R84, R87, R94 to R96, R98): in ACTIVE the pre-open test moves IDLE and READY; curtain and request follow the
state that it left, as DoorTimersMoveDoor says of `settleDoor`; the debt gains in OPEN and LAYOVER, the feedforward is formed
from it, and the served part is paid back; FAULT keeps its debt; in STANDBY only the timer restarts. The request of a primary
zone activated since the last publication was taken reads as 0 (R100; the mark is log 29). That the command takes the clock
to the timer's end is the model's (log 1, log 2). -/
def Obligations.DoorPeriodAccountsDebt : Prop :=
  ∀ (d : Fin 6) (e : Nat) (s : State), s.doors.doors.length = 6 → (s.door d).period = some e →
    let l := s.door d
    let g := globals s.tables
    let c := doorCfg s.tables d
    let z := s.composer.copy.zones.getD c.primaryZone {}
    let out := (s.read g.outdoorSlot).1
    let diff : Int := max 0 ((s.zone c.primaryZone).temp - out)
    let heat (f : Int) : Nat := if (zoneCfg s.tables c.primaryZone).valid = true then (diff * f / 64).toNat else 0
    let gain := if l.state = .opened then heat c.openFactor
      else if l.state = .layover then heat (c.openFactor / 4) else 0
    let debt := min c.debtLimit (l.debt + gain)
    let ff := min 400 (debt * c.paybackGain / 4096)
    let request := if (zoneCfg s.tables c.primaryZone).valid = true ∧ (s.zone c.primaryZone).unpublished = false then
      z.request else 0
    let paid := if s.composer.copy.supply = .breaking ∨ s.composer.copy.supply = .held then 0
      else if request = 0 then ff else ff * z.grant / request
    let released := s.read c.releaseSlot
    let speed := s.read g.speedSlot
    let state : DoorState := if l.state = .idle ∨ l.state = .ready then
        (if released.2 ≠ .none ∧ released.1 = 1 ∧ speed.2 ≠ .none ∧ speed.1 < g.preOpenSpeed then .ready else .idle)
      else l.state
    ∃ t, exec (.doorPeriod d) s = .next t ∧ (t.door d).period = some (max s.now e + 1000) ∧
      (s.doors.climate = .standby → t.door d = { l with period := some (max s.now e + 1000) }) ∧
      (s.doors.climate = .active → l.state = .fault →
        t.door d = { settleDoor s d l with period := some (max s.now e + 1000) }) ∧
      (s.doors.climate = .active → l.state ≠ .fault →
        t.door d = { settleDoor s d { l with state := state } with
          debt := debt - paid
          ff := ff
          period := some (max s.now e + 1000) }) ∧
      t = { s with
        now := max s.now e
        doors := { s.doors with doors := s.doors.doors.set d (t.door d) } }

/-- DOOR_OPEN_NOTICE and RELEASE_NOTICE in ACTIVE (R85 to R87, R91): the transitions of 5.3, the timers they start and stop,
the held stage, and curtain and request at each of them (`settleDoor`, which DoorTimersMoveDoor spells out); in STANDBY a
notice is only taken (R98). A door with no release slot never enters READY. That the held stage takes the stage without the
inhibit is log 12; that a door which is no longer valid takes a waiting notice without an effect is log 26; and that the slot
which a notice carries is not compared with the record is log 42. -/
def Obligations.DoorNoticesMoveDoor : Prop :=
  ∀ (d : Fin 6) (i : Nat) (v : Int) (m : Bool) (rest : List DoorNotice) (s : State), s.doors.doors.length = 6 →
    let l := s.door d
    let g := globals s.tables
    let c := doorCfg s.tables d
    let heard : DoorLive := { l with notices := rest, signalLost := some (s.now + 1000 * g.signalLostTime) }
    let speed := s.read g.speedSlot
    let slow := speed.2 ≠ .none ∧ speed.1 < g.preOpenSpeed
    let listens := c.valid = true ∧ s.doors.climate = .active
    (l.notices = .doorOpen i v m :: rest →
      ∃ t, exec (.doorOpenNotice d) s = .next t ∧
        (¬listens → t.door d = { l with notices := rest }) ∧
        (listens →
          (v = 1 → l.state ≠ .opened → l.state ≠ .layover →
            t.door d = settleDoor s d { heard with
              state := .opened, runOn := none, openTimer := some (s.now + 1000 * c.layoverTime) }) ∧
          (v = 1 → l.state = .opened ∨ l.state = .layover → t.door d = heard) ∧
          (v ≠ 1 → l.state = .opened ∨ l.state = .layover →
            t.door d = settleDoor s d { heard with
              state := .runOn, heldStage := l.ownStage, openTimer := none
              runOn := some (s.now + 1000 * c.runOnTime) }) ∧
          (v ≠ 1 → l.state = .fault → t.door d = settleDoor s d { heard with state := .idle }) ∧
          (v ≠ 1 → l.state = .idle ∨ l.state = .ready ∨ l.state = .runOn → t.door d = heard)) ∧
        t = { s with doors := { s.doors with doors := s.doors.doors.set d (t.door d) } }) ∧
    (l.notices = .release i v :: rest →
      ∃ t, exec (.releaseNotice d) s = .next t ∧
        (listens → l.state = .idle →
          t.door d = (if v = 1 ∧ slow ∧ c.releaseSlot ≠ none then
            settleDoor s d { l with notices := rest, state := .ready } else { l with notices := rest })) ∧
        (listens → l.state = .ready →
          t.door d = (if v = 1 then { l with notices := rest }
            else settleDoor s d { l with notices := rest, state := .idle })) ∧
        (¬listens ∨ (l.state ≠ .idle ∧ l.state ≠ .ready) → t.door d = { l with notices := rest }) ∧
        t = { s with doors := { s.doors with doors := s.doors.doors.set d (t.door d) } })

/-- Curtain and request (R92, R93, R97), and OPEN_TIMER_EXPIRY, RUN_ON_EXPIRY and SIGNAL_LOST_EXPIRY (R88 to R90): stage and
fan level by the door's state, 0 and OFF under a curtain inhibit, and a request for the outputs that the door holds; each
timer's transition makes them anew. The stage without the inhibit is kept beside for the held stage (log 12). That a timer's
command takes the clock to its end is the model's (log 1, log 2). That an output's rated power is taken as its record has it
is log 28. -/
def Obligations.DoorTimersMoveDoor : Prop :=
  (∀ (d : Nat) (l : DoorLive) (s : State),
    let g := globals s.tables
    let c := doorCfg s.tables d
    let out := (s.read g.outdoorSlot).1
    let own : Nat := match l.state with
      | .ready | .layover => 1
      | .opened => if out < g.curtain1 then 3 else if out < g.curtain2 then 2 else if out < g.curtain3 then 1 else 0
      | .runOn => l.heldStage
      | .idle | .fault => 0
    let inhibited := s.override.curtainInhibit = true
    let stage := if inhibited then 0 else own
    let fan : FanLevel := if inhibited then .off
      else if l.state = .opened ∨ l.state = .runOn then .on else if l.state = .layover then .low else .off
    let counted (k : Nat) : Prop := (s.output k).failed = false ∧ (s.output k).forced = none
    let heatPower : Nat := match c.curtainHeat with
      | some k => if role s.tables k = some (.curtainHeat d) ∧ counted k then stage * g.stagePower else 0
      | none => 0
    let fanPower : Nat := match c.curtainFan with
      | some k => if role s.tables k = some (.curtainFan d) ∧ counted k ∧ fan ≠ .off then
          (let rated := (outputCfg s.tables k).rated
           match (outputCfg s.tables k).kind with
            | .staged n => rated * (if fan = .low then (n + 1) / 2 else n) / n
            | .proportional => rated * (if fan = .low then 500 else 1000) / 1000
            | .switched => rated)
        else 0
      | none => 0
    settleDoor s d l = { l with
      stage := stage
      ownStage := own
      fan := fan
      request := min 1500 (if s.composer.copy.supply = .breaking ∨ s.composer.copy.supply = .held then fanPower
        else heatPower + fanPower) }) ∧
  ∀ (d : Fin 6) (e : Nat) (s : State), s.doors.doors.length = 6 →
    let l := s.door d
    let moved (x : DoorLive) : State := { s with
      now := max s.now e
      doors := { s.doors with doors := s.doors.doors.set d x } }
    (l.openTimer = some e →
      exec (.openTimerExpiry d) s =
        .next (moved (settleDoor s d { l with state := .layover, openTimer := none }))) ∧
    (l.runOn = some e →
      exec (.runOnExpiry d) s =
        .next (moved (settleDoor s d { l with state := .idle, heldStage := 0, runOn := none }))) ∧
    (l.signalLost = some e →
      exec (.signalLostExpiry d) s = .next (raise .doorFault (moved { l with
        state := .fault, stage := 0, ownStage := 0, heldStage := 0, fan := .off, ff := 0, request := 0
        openTimer := none, runOn := none, signalLost := none })))

/-! ### Climate state notices -/

/-- DOOR_, SCREEN_, COMPOSER_ and STACK_CLIMATE_NOTICE (R98, R113, R144, R159): each block takes its oldest notice; STANDBY
clears the valid doors and channels, the values that are not forced, and the stack; at ACTIVE the valid doors and channels
start from the cleared values, each door with its signal-lost timer. What is not valid stays as it is, and so do the notices
that a door holds. The notice that a block took last is its view of the climate state (log 3). That a door keeps its waiting
notices is log 26. -/
def Obligations.ClimateNoticesTaken : Prop :=
  ∀ (c : Climate) (rest : List Climate) (s : State),
    (s.doors.climateNotices = c :: rest →
      exec .doorClimateNotice s = .next { s with doors := {
        climate := c
        climateNotices := rest
        doors := s.doors.doors.mapIdx fun d l =>
          if (doorCfg s.tables d).valid = true then
            { state := .idle, stage := 0, ownStage := 0, heldStage := 0, fan := .off, debt := 0, ff := 0, request := 0
              period := l.period, openTimer := none, runOn := none
              signalLost := if c = .active then some (s.now + 1000 * (globals s.tables).signalLostTime) else none
              notices := l.notices }
          else l } }) ∧
    (s.screens.climateNotices = c :: rest →
      exec .screenClimateNotice s = .next { s with screens := {
        climate := c
        climateNotices := rest
        channels := s.screens.channels.mapIdx fun k l =>
          if (screenCfg s.tables k).valid = true then
            { l with condition := .clear, basis := .margin, conditionLevel := 0, effectiveLevel := 0, request := 0 }
          else l } }) ∧
    (s.composer.climateNotices = c :: rest →
      exec .composerClimateNotice s = .next { s with composer := { s.composer with
        climate := c
        climateNotices := rest
        outputs := s.composer.outputs.map fun l =>
          { l with value := if c = .standby ∧ l.forced = none then 0 else l.value } } }) ∧
    (s.overrides.climateNotices = c :: rest →
      exec .stackClimateNotice s = .next { s with overrides := { s.overrides with
        climate := c
        climateNotices := rest
        entries := if c = .standby then [] else s.overrides.entries } })

/-! ### Screens -/

/-- SCREEN_EVALUATION (R103 to R109, R111): depression, dew point and margin from the slots in either climate state; in ACTIVE
the condition and its basis by ice test, margin with hysteresis, or lost sensors, the levels from it, the request from the
effective level, and SCREEN_FOG on entry to FOGGING or ICE alone. That the command takes the clock to the timer's end is the
model's (log 1, log 2). -/
def Obligations.ScreenEvaluationDecides : Prop :=
  ∀ (c : Fin 2) (d : Nat) (s : State), s.screens.channels.length = 2 → (s.screen c).timer = some d →
    let r := screenCfg s.tables c
    let old := s.screen c
    let glass := s.read r.glass
    let out := (s.read (globals s.tables).outdoorSlot).1
    let dry := (s.read r.air).2 = .none ∨ (s.read r.humidity).2 = .none
    let rh := max 0 (min 1000 (s.read r.humidity).1)
    let i := (rh / 100).toNat
    let point := depressionPoint s.tables
    let depression := if rh = 1000 then point 10 else point i - (point i - point (i + 1)) * (rh - 100 * i) / 100
    ∃ t, exec (.screenEvaluation c) s = .next t ∧
      (let n := t.screen c
       n.timer = some (max s.now d + 2000) ∧
       n.depression = depression ∧
       n.dewPoint = max (-32768) (min 32767 ((s.read r.air).1 - depression)) ∧
       n.margin = max (-32768) (min 32767 (glass.1 - n.dewPoint)) ∧
       (s.screens.climate = .standby →
         t.mgmt = s.mgmt ∧ t.bp = s.bp ∧
         n = { old with depression := n.depression, dewPoint := n.dewPoint, margin := n.margin, timer := n.timer }) ∧
       (s.screens.climate = .active →
         (glass.2 = .none → n.condition = (if out ≤ 5 then .fogging else .marginal) ∧ n.basis = .glassLost) ∧
         (glass.2 ≠ .none → old.condition = .ice → glass.1 ≤ 29 →
           n.condition = .ice ∧ n.basis = if dry then .airLost else .iceTest) ∧
         (glass.2 ≠ .none → old.condition ≠ .ice → glass.1 ≤ 0 → out ≤ 5 →
           n.condition = .ice ∧ n.basis = if dry then .airLost else .iceTest) ∧
         (glass.2 ≠ .none →
           (old.condition = .ice ∧ 30 ≤ glass.1) ∨ (old.condition ≠ .ice ∧ ¬(glass.1 ≤ 0 ∧ out ≤ 5)) →
           (dry → n.condition = .marginal ∧ n.basis = .airLost) ∧
           (¬dry → n.basis = .margin ∧
             (let wet := old.condition = .fogging ∨ old.condition = .ice
              n.condition =
                if n.margin ≤ r.fog then .fogging
                else if wet ∧ n.margin ≤ r.fog + r.hysteresis then .fogging
                else if n.margin ≤ r.marginal then .marginal
                else if (wet ∨ old.condition = .marginal) ∧ n.margin ≤ r.marginal + r.hysteresis then .marginal
                else .clear))) ∧
         n.conditionLevel = n.condition.level ∧
         n.effectiveLevel = max n.conditionLevel s.override.screenFloor ∧
         n.request = (match r.heater with
           | some k =>
             if role s.tables k = some (.screenHeater c) ∧ (s.output k).failed = false ∧ (s.output k).forced = none ∧
                 0 < n.effectiveLevel ∧ s.composer.copy.supply ≠ .breaking ∧ s.composer.copy.supply ≠ .held then
               r.levelPower.getD (n.effectiveLevel - 1) 0 else 0
           | none => 0) ∧
         (let entered := (n.condition = .fogging ∨ n.condition = .ice) ∧
            (old.condition = .clear ∨ old.condition = .marginal)
          (entered → hasFlag t.mgmt.flags .screenFog = true) ∧ (¬entered → t.mgmt = s.mgmt ∧ t.bp = s.bp)))) ∧
      [ScreenCondition.clear, .marginal, .fogging, .ice].map ScreenCondition.level = [0, 1, 2, 3] ∧
      t = { s with
        now := max s.now d
        bp := t.bp
        screens := { s.screens with channels := s.screens.channels.set c (t.screen c) }
        mgmt := { s.mgmt with flags := t.mgmt.flags } }

/-! ### Supply and budget -/

/-- LINE_WRITE_NOTICE and LINE_LEAVE_NOTICE (R117 to R119, R123, R124): a sample below the break threshold or a leave ends
ON_LINE, HELD and RESUMING, with the flag, the timers and the allocation of the entry (`allocate` is spelled out in
SupplyTimersAndResume); in BREAK samples run or cancel the resume delay; in OFF_WIRE nothing follows. That the last line
sample keeps the carried value within 0..1000 is log 24. That a notice is taken whatever slot it carries is log 44. -/
def Obligations.LineNoticesMoveSupply : Prop :=
  ∀ (i : Nat) (v w : Int) (m : Bool) (st : SlotState) (q : Quality) (rest : List SupplyNotice) (s : State),
    let g := globals s.tables
    let pole := s.read g.poleSlot
    let dropped (u : Supply) : State :=
      if u.state = .onLine ∧ pole.2 = .good ∧ pole.1 = 0 then
        allocate false { s with supply := { u with state := .offWire, resumeDelay := none, longBreak := none } }
      else
        allocate false (raise .supplyBreak { s with supply := { u with
          state := .breaking, resumeDelay := none, longBreak := some (s.now + 1000 * g.longBreakTime) } })
    let lineUp := s.supply.state = .onLine ∨ s.supply.state = .held ∨ s.supply.state = .resuming
    (s.supply.notices = .lineWrite i v m :: rest →
      let u : Supply := { s.supply with notices := rest, lastLine := some (max 0 (min 1000 v)).toNat }
      (lineUp → v < g.breakLevel → exec .lineWriteNotice s = .next (dropped u)) ∧
      ((lineUp ∧ g.breakLevel ≤ v) ∨ s.supply.state = .offWire →
        exec .lineWriteNotice s = .next { s with supply := u }) ∧
      (s.supply.state = .breaking →
        exec .lineWriteNotice s = .next { s with supply := { u with
          resumeDelay := if v < g.resumeLevel then none
            else some (s.supply.resumeDelay.getD (s.now + g.resumeDelay)) } })) ∧
    (s.supply.notices = .lineLeave i st w q :: rest →
      let u : Supply := { s.supply with notices := rest }
      (lineUp → exec .lineLeaveNotice s = .next (dropped u)) ∧
      (s.supply.state = .breaking →
        exec .lineLeaveNotice s = .next { s with supply := { u with resumeDelay := none } }) ∧
      (s.supply.state = .offWire → exec .lineLeaveNotice s = .next { s with supply := u }))

/-- POLE_CHANGE_NOTICE (R118, R124 to R126): poles down leads to OFF_WIRE from every other state; poles up from OFF_WIRE
leads to RESUMING at the break allowance on a GOOD line at or above the resume threshold, else to BREAK; each entry makes
its allocation (`allocate` is spelled out in SupplyTimersAndResume); otherwise nothing follows. That a notice is taken
whatever slot it carries is log 44. -/
def Obligations.PoleChangeMovesSupply : Prop :=
  ∀ (i : Nat) (v : Int) (rest : List SupplyNotice) (s : State), s.supply.notices = .poleChange i v :: rest →
    let g := globals s.tables
    let line := s.read g.lineSlot
    let u : Supply := { s.supply with notices := rest }
    (v = 0 → s.supply.state ≠ .offWire → exec .poleChangeNotice s =
      .next (allocate false { s with supply := { u with state := .offWire, resumeDelay := none, longBreak := none } })) ∧
    ((v = 0 ∧ s.supply.state = .offWire) ∨ (v ≠ 0 ∧ s.supply.state ≠ .offWire) →
      exec .poleChangeNotice s = .next { s with supply := u }) ∧
    (v ≠ 0 → s.supply.state = .offWire →
      (line.2 = .good ∧ g.resumeLevel ≤ line.1 → exec .poleChangeNotice s =
        .next (allocate false { s with supply := { u with
          state := .resuming, ceiling := g.breakAllowance, resumeDelay := none, longBreak := none } })) ∧
      (¬(line.2 = .good ∧ g.resumeLevel ≤ line.1) → exec .poleChangeNotice s =
        .next (allocate false (raise .supplyBreak { s with supply := { u with
          state := .breaking, resumeDelay := none, longBreak := some (s.now + 1000 * g.longBreakTime) } }))))

/-- The allocation (R123, R127 to R134): surplus, target and C_eff by the supply state, RESUMING that has reached its target
going ON_LINE, the stored requests served class by class in the order F, P0 to P4 with P4 from the lesser of remainder and
surplus, the marks, and the publication sent whole. And what makes one: RESUME_DELAY_EXPIRY, LONG_BREAK_EXPIRY,
BUDGET_TIMER_EXPIRY and RESUME (R120 to R122, R126, R129, R130): RESUME resumes in HELD and is answered BAD_STATE, with no
effect, in every other state. That a timer's command takes the clock to its end is the model's (log 1, log 2); that a zone
which is not valid carries its record's class in the publication is log 18. -/
def Obligations.SupplyTimersAndResume : Prop :=
  (∀ s : State,
    let ofClass (c : ZoneClass) (z : Nat) : Prop := (zoneCfg s.tables z).valid = true ∧ (zoneCfg s.tables z).cls = c
    storedRequests s =
      { f := (List.range 48).map fun k => if (s.output k).forced.isSome = true then (s.output k).fRequest else 0
        screens := (List.range 2).map fun c => if (screenCfg s.tables c).valid = true then (s.screen c).request else 0
        cabs := (List.range 8).map fun z => if ofClass .cab z then (s.zone z).request else 0
        doors := (List.range 6).map fun d => if (doorCfg s.tables d).valid = true then (s.door d).request else 0
        saloons := (List.range 8).map fun z => if ofClass .saloon z then (s.zone z).request else 0
        storage := (List.range 8).map fun z => if ofClass .saloon z then (s.zone z).storageRequest else 0 }) ∧
  (∀ (ceiling surplus : Nat) (q : Requests),
    let f := serveClass true ceiling q.f
    let p0 := serveClass (!f.short) f.remainder q.screens
    let p1 := serveClass (!f.short && !p0.short) p0.remainder q.cabs
    let p2 := serveClass (!f.short && !p0.short && !p1.short) p1.remainder q.doors
    let p3 := serveClass (!f.short && !p0.short && !p1.short && !p2.short) p2.remainder q.saloons
    let p4 := serveClass (!f.short && !p0.short && !p1.short && !p2.short && !p3.short) (min p3.remainder surplus) q.storage
    allot ceiling surplus q =
      { f := f.grants, screens := p0.grants, cabs := p1.grants, doors := p2.grants, saloons := p3.grants
        storage := p4.grants
        shortClass := if f.short = true then .f else if p0.short = true then .p0 else if p1.short = true then .p1
          else if p2.short = true then .p2 else if p3.short = true then .p3 else .none }) ∧
  (∀ (ramp : Bool) (s : State),
    let g := globals s.tables
    let st := s.supply.state
    let regen := s.read g.regenSlot
    let aux := s.read g.auxSlot
    let surplus : Nat := if (st = .onLine ∨ st = .offWire) ∧ regen.2 = .good ∧ 0 < regen.1 then
      min g.regenCap regen.1.toNat else 0
    let line : Int := if aux.2 = .good then min g.lineCeiling aux.1 else g.lineCeiling
    let target : Nat := (max 0 (min 1500 (match st with
      | .onLine => line + surplus
      | .resuming => line
      | .offWire => (g.offWireCeiling : Int) + surplus
      | .breaking | .held => (g.breakAllowance : Int)))).toNat
    let ceiling := if target < s.supply.ceiling then target
      else if ramp = true then min target (s.supply.ceiling + g.rampStep) else s.supply.ceiling
    let reached : SupplyState := if st = .resuming ∧ ceiling = target then .onLine else st
    let q := storedRequests s
    let a := allot ceiling surplus q
    let side (qs gs : List Nat) : List Share := List.zipWith (fun x y => { request := x, grant := y }) qs gs
    let publication : Publication :=
      { supply := reached
        ceiling := ceiling
        shortClass := a.shortClass
        surplus := surplus
        outputs := side q.f a.f
        screens := side q.screens a.screens
        zones := (List.range 8).map fun z =>
          let cab := (zoneCfg s.tables z).cls = .cab
          let asked := if cab then q.cabs.getD z 0 else q.saloons.getD z 0
          let given := if cab then a.cabs.getD z 0 else a.saloons.getD z 0
          { cls := (zoneCfg s.tables z).cls, request := asked, grant := given, limited := decide (given < asked)
            storageRequest := q.storage.getD z 0, storageGrant := a.storage.getD z 0 }
        doors := side q.doors a.doors }
    let formed : State := { s with supply := { s.supply with
      state := reached, target := target, surplus := surplus, ceiling := ceiling } }
    let published (x : State) : State := { x with
      supply := { x.supply with lastPub := publication }
      composer := { x.composer with publications := x.composer.publications ++ [publication] } }
    (a.shortClass = .none → allocate ramp s = published formed) ∧
    (a.shortClass ≠ .none → allocate ramp s = published (raise .budgetShort formed))) ∧
  ∀ (d : Nat) (more : List Byte) (rest : List Captured) (s : State),
    let g := globals s.tables
    let at' : State := { s with now := max s.now d }
    let resuming (x : State) : State := allocate false { x with supply := { x.supply with
      state := .resuming, ceiling := g.breakAllowance, resumeDelay := none, longBreak := none } }
    (s.supply.resumeDelay = some d →
      (g.autoResume = true → exec .resumeDelayExpiry s = .next (resuming at')) ∧
      (g.autoResume = false → exec .resumeDelayExpiry s =
        .next (allocate false (raise .supplyHeld { at' with supply := { s.supply with
          state := .held, resumeDelay := none, longBreak := none } })))) ∧
    (s.supply.longBreak = some d →
      let pole := s.read g.poleSlot
      let lapsed := raise .longBreak { at' with supply := { s.supply with longBreak := none } }
      exec .longBreakExpiry s = .next (if pole.2 = .good ∧ pole.1 = 0 then
          allocate false { lapsed with supply := { s.supply with
            state := .offWire, resumeDelay := none, longBreak := none } }
        else lapsed)) ∧
    (s.supply.budget = some d →
      exec .budgetTimerExpiry s =
        .next (allocate true { at' with supply := { s.supply with budget := some (max s.now d + 100) } })) ∧
    (s.mgmt.captured = .request (14 :: more) :: rest → s.mgmt.switch = none → s.mgmt.store = none →
      let s' : State := { s with mgmt := { s.mgmt with captured := rest } }
      (s.supply.state = .held → exec .resume s = .next (reply 14 .ok (resuming s'))) ∧
      (s.supply.state ≠ .held → exec .resume s = .next (reply 14 .badState s')))

/-- Serving one class (R131): granted whole, shared in proportion with the floor, or not reached. -/
def Obligations.ClassServed : Prop :=
  ∀ (reached : Bool) (r : Nat) (qs : List Nat),
    let x := serveClass reached r qs
    x.grants.length = qs.length ∧
    (reached = true → qs.sum ≤ r → x.grants = qs ∧ x.remainder = r - qs.sum ∧ x.short = false) ∧
    (reached = true → r < qs.sum →
      x.grants = qs.map (fun q => q * r / qs.sum) ∧ x.remainder = r - x.grants.sum ∧ x.short = true) ∧
    (reached = false → (∀ g ∈ x.grants, g = 0) ∧ x.remainder = r) ∧
    x.grants.sum ≤ r ∧ ∀ (i g q : Nat), x.grants[i]? = some g → qs[i]? = some q → g ≤ q

/-! ### Composer -/

/-- Fitting and the fill (R142): the fitted value of each kind, at most the demanded one and drawing at most the budget, the
greatest such value where the output is staged; a source's outputs are filled one after the other, each from what the ones
before left, and together draw at most its budget. -/
def Obligations.FillWithinBudget : Prop :=
  (∀ (o : OutputCfg) (demanded budget : Nat),
    o.power (o.fit demanded budget) ≤ budget ∧
    (demanded ≤ o.kind.full → o.fit demanded budget ≤ demanded) ∧
    (o.composerRated = 0 → o.fit demanded budget = demanded) ∧
    (∀ n v, o.kind = .staged n → v ≤ demanded → o.power v ≤ budget → o.composerRated ≠ 0 →
      v ≤ o.fit demanded budget) ∧
    (o.kind = .proportional → o.composerRated ≠ 0 →
      o.fit demanded budget = min demanded (budget * 1000 / o.composerRated)) ∧
    (o.kind = .switched → o.composerRated ≠ 0 →
      o.fit demanded budget = if demanded ≠ 0 ∧ o.composerRated ≤ budget then 1 else 0)) ∧
  ∀ (t : Tables) (budget : Nat),
    fillChain t budget [] = [] ∧
    (∀ (k demanded : Nat) (rest : List (Nat × Nat)),
      let v := (outputCfg t k).fit demanded budget
      fillChain t budget ((k, demanded) :: rest) =
        (k, v) :: fillChain t (budget - (outputCfg t k).power v) rest) ∧
    ∀ items : List (Nat × Nat), ((fillChain t budget items).map fun x => (outputCfg t x.1).power x.2).sum ≤ budget

/-- The roles (R137) and PUBLICATION_TAKE (R93, R110, R138, R140 to R144): the copy is the oldest publication; marks, F
requests and values follow it: a FAILED or held-off output is 0, a forced one fits its F grant, one that is not valid is 0,
in STANDBY all but the forced; every other output has what the fill of its source gives it, the source's outputs taken in
their order with their demanded values, and 0 when no source fills it. STANDBY is the composer's own view of the climate
state (log 3). That a named role holds whatever the source field holds is log 41; that the mark of R100 ends here is log 29.
Last, stage 6 makes the send-on-change test of each of the 24 entries (R141, R148; FramesPutOnTime spells `changeTest`,
their order is log 13), and ports and schedules change by the setting of OUTPUT_FAULT and these tests alone. The role of an
output named by several records is log 25; the value of a forced output that is not valid is log 38. -/
def Obligations.PublicationTaken : Prop :=
  (∀ (t : Tables) (k : Nat),
    let o := outputCfg t k
    role t k =
      if o.valid = false then none
      else match (List.range 8).find? fun z => (zoneCfg t z).valid && (zoneCfg t z).blowerOutput == some k with
      | some z => some (.zoneBlower z)
      | none =>
      match (List.range 8).find? fun z => (zoneCfg t z).valid && (zoneCfg t z).damperOutput == some k with
      | some z => some (.zoneDamper z)
      | none =>
      match (List.range 6).find? fun d => (doorCfg t d).valid && (doorCfg t d).curtainFan == some k with
      | some d => some (.curtainFan d)
      | none =>
      match (List.range 6).find? fun d => (doorCfg t d).valid && (doorCfg t d).curtainHeat == some k with
      | some d => some (.curtainHeat d)
      | none =>
      match (List.range 2).find? fun c => (screenCfg t c).valid && (screenCfg t c).heater == some k with
      | some c => some (.screenHeater c)
      | none =>
      match o.source with
      | some (.zone z) => if o.function = some .heat ∨ o.function = some .cool then some (.conditioning z) else none
      | _ => none) ∧
  ∀ (p : Publication) (rest : List Publication) (s : State), s.composer.publications = p :: rest →
    let cfg := outputCfg s.tables
    let faulty (k : Nat) : Bool := (cfg k).valid &&
      ((s.read (cfg k).faultSlot).2 == .good && (s.read (cfg k).faultSlot).1 != 0)
    -- An output takes part in its source's fill in the role r, with the demanded value that `demand` gives for its kind.
    let part (named : Option Nat) (r : Role) (demand : OutputKind → Nat) : List (Nat × Nat) := match named with
      | some k => if role s.tables k = some r ∧ faulty k = false ∧ (s.output k).forced = none then
          [(k, demand (cfg k).kind)] else []
      | none => []
    let permille (x : Nat) (kind : OutputKind) : Nat := match kind with
      | .proportional => x
      | .staged n => (x * n + 999) / 1000
      | .switched => if x = 0 then 0 else 1
    let third (x : Nat) (kind : OutputKind) : Nat := match kind with
      | .staged n => min x n
      | .proportional => x * 1000 / 3
      | .switched => if x = 0 then 0 else 1
    let blown (x : FanLevel) (kind : OutputKind) : Nat := match x, kind with
      | .off, _ => 0
      | .low, .staged n => (n + 1) / 2
      | .on, .staged n => n
      | .low, .proportional => 500
      | .on, .proportional => 1000
      | _, .switched => 1
    let zoneFill (z : Nat) : List (Nat × Nat) :=
      let c := zoneCfg s.tables z
      let share := p.zones.getD z {}
      let fn : Option OutputFn := if 0 < (s.zone z).demand ∨ ((s.zone z).demand = 0 ∧ 0 < share.storageGrant) then some .heat
        else if (s.zone z).demand < 0 then some .cool else none
      let chosen (k : Nat) : Bool := decide (role s.tables k = some (.conditioning z) ∧ fn.isSome = true ∧
        (cfg k).function = fn ∧ faulty k = false ∧ (s.output k).forced = none)
      if c.valid = true then fillChain s.tables (share.grant + share.storageGrant)
        (part c.blowerOutput (.zoneBlower z) (permille (s.zone z).blower)
          ++ part c.damperOutput (.zoneDamper z) (permille (s.zone z).damper)
          ++ (List.range 16).flatMap fun rank =>
            ((List.range 48).filter fun k => chosen k && (cfg k).fillRank == rank).map fun k => (k, (cfg k).kind.full))
      else []
    let doorFill (d : Nat) : List (Nat × Nat) :=
      let c := doorCfg s.tables d
      if c.valid = true then fillChain s.tables (p.doors.getD d {}).grant
        (part c.curtainFan (.curtainFan d) (blown (s.door d).fan)
          ++ part c.curtainHeat (.curtainHeat d) (third (s.door d).stage))
      else []
    let screenFill (c : Nat) : List (Nat × Nat) :=
      if (screenCfg s.tables c).valid = true then fillChain s.tables (p.screens.getD c {}).grant
        (part (screenCfg s.tables c).heater (.screenHeater c) (third (s.screen c).effectiveLevel))
      else []
    let filled := (List.range 8).flatMap zoneFill ++ (List.range 6).flatMap doorFill ++ (List.range 2).flatMap screenFill
    ∃ t, exec .publicationTake s = .next t ∧
      t = { s with
        bp := t.bp
        fp := t.fp
        regulator := { s.regulator with zones := t.regulator.zones }
        composer := { s.composer with
          publications := rest
          copy := p
          outputs := t.composer.outputs
          schedules := t.composer.schedules }
        mgmt := { s.mgmt with flags := t.mgmt.flags } } ∧
      (∀ (k : Nat) (l : OutputLive), t.composer.outputs[k]? = some l →
        l.forced = (s.output k).forced ∧
        l.failed = faulty k ∧
        ((cfg k).valid = false → l.value = 0) ∧
        (l.failed = true → l.value = 0 ∧ l.fRequest = 0) ∧
        (p.supply.cut = true → (cfg k).conditioning = true → l.value = 0 ∧ l.fRequest = 0) ∧
        (l.forced = none → s.composer.climate = .standby → l.value = 0) ∧
        (l.forced = none → l.fRequest = 0) ∧
        (∀ v, l.forced = some v → (cfg k).valid = true → l.failed = false →
          ¬(p.supply.cut = true ∧ (cfg k).conditioning = true) →
          l.value = (cfg k).fit v (p.outputs.getD k {}).grant ∧
          l.fRequest = (cfg k).power v) ∧
        (l.failed = true → (s.output k).failed = false → k < 48 → hasFlag t.mgmt.flags .outputFault = true) ∧
        (s.composer.outputs.length = 48 → s.composer.climate = .active → (cfg k).valid = true → l.failed = false →
          l.forced = none → ¬(p.supply.cut = true ∧ (cfg k).conditioning = true) →
          l.value = ((filled.find? fun x => x.1 == k).map fun x => x.2).getD 0)) ∧
      (∀ (z : Nat) (l : ZoneLive), t.regulator.zones[z]? = some l →
        l = { s.zone z with
          hold := if (zoneCfg s.tables z).valid = true ∧ s.regulator.climate = .active ∧
              0 < (p.zones.getD z {}).storageGrant then some (s.now + 60000) else (s.zone z).hold
          unpublished := false }) ∧
      t.composer.outputs.length = s.composer.outputs.length ∧ t.regulator.zones.length = s.regulator.zones.length ∧
      (let formed : State := { s with
        regulator := { s.regulator with zones := t.regulator.zones }
        composer := { s.composer with publications := rest, copy := p, outputs := t.composer.outputs } }
       let newlyFailed := ∃ k, k < 48 ∧ faulty k = true ∧ (s.output k).failed = false
       (newlyFailed → t = (List.range 24).foldl changeTest (raise .outputFault formed)) ∧
       (¬newlyFailed → t = (List.range 24).foldl changeTest formed))

/-- The content of a command frame and its put (R145, R146, R150), FRAME_PERIOD_EXPIRY, SPACING_EXPIRY and the
send-on-change test (R147, R148): the fill byte, then the placements in their order, each value shifted, saturated to its
width and written where it fits; the period timer restarts with the pending or present period and the frame is put unless
held; at the spacing's end it is put if its content still differs from the last sent. So it is at the send-on-change test of
a publication, unless the spacing after the last put still runs (the order of the tests is log 13). STANDBY is the
composer's own view of the climate state (log 3). That a timer's command takes the clock to its end is the model's (log 1,
log 2). The CAB zone whose T a STATUS placement reads is log 34. -/
def Obligations.FramesPutOnTime : Prop :=
  (∀ (n : Nat) (s : State),
    let c := frameCfg s.tables n
    let cabs := (List.range 8).find? fun z => (zoneCfg s.tables z).valid && (zoneCfg s.tables z).cls == .cab
    let copy := s.composer.copy
    let items : List Int :=
      [s.regulator.climate.code, copy.supply.code, copy.ceiling, s.overrides.entries.length,
        (s.overrides.entries.head?.map (·.preset)).getD 255, (s.screen 0).effectiveLevel, (s.screen 1).effectiveLevel,
        copy.shortClass.code, (cabs.map fun z => (s.zone z).temp).getD 0, s.bp.err.code, s.fp.err.code]
    let value (x : Placement) : Int := match x.kind with
      | .output => if x.index < 48 then (s.output x.index).value else 0
      | .slot => if x.index < 96 then (s.read (some x.index)).1 else 0
      | .status => items.getD x.index 0
      | .nothing => 0
    let low (x : Placement) : Int :=
      if x.kind = .slot ∨ (x.kind = .status ∧ x.index = 8) then (if x.wide = true then -32768 else -128) else 0
    let high (x : Placement) : Int :=
      if x.kind = .slot ∨ (x.kind = .status ∧ x.index = 8) then (if x.wide = true then 32767 else 127)
      else (if x.wide = true then 65535 else 255)
    let written (x : Placement) : Int := max (low x) (min (high x) (value x / 2 ^ x.shift))
    let bytes (x : Placement) : List Byte :=
      if x.wide = false then [BitVec.ofInt 8 (written x)]
      else if x.highFirst = true then [BitVec.ofInt 8 (written x / 256), BitVec.ofInt 8 (written x)]
      else [BitVec.ofInt 8 (written x), BitVec.ofInt 8 (written x / 256)]
    let place (content : List Byte) (x : Placement) : List Byte :=
      if x.startByte + (bytes x).length ≤ c.length then
        (List.range c.length).map fun j =>
          if x.startByte ≤ j ∧ j < x.startByte + (bytes x).length then (bytes x).getD (j - x.startByte) 0
          else content.getD j 0
      else content
    let frame : QueuedFrame :=
      { frame := { ident := .standard c.ident, kind := .data, lengthCode := BitVec.ofNat 4 c.length
                   data := buildContent s n }
        origin := .commandFrame n }
    let sent := putFrame c.port c.cls frame s
    buildContent s n = c.placements.foldl place (List.replicate c.length c.fillByte) ∧
    (buildContent s n).length = c.length ∧
    putCommandFrame n s = sent.setSchedule n { s.schedule n with
      lastPut := if (s.port c.port).outcome c.cls (.commandFrame n) = .accepted then some s.now
        else (s.schedule n).lastPut }) ∧
  ([Climate.standby, .active].map Climate.code = [0, 1] ∧
    [SupplyState.onLine, .breaking, .held, .resuming, .offWire].map SupplyState.code = [0, 1, 2, 3, 4] ∧
    [ShortClass.none, .f, .p0, .p1, .p2, .p3].map ShortClass.code = [0, 1, 2, 3, 4, 5] ∧
    [ErrorState.active, .passive, .busOff].map ErrorState.code = [0, 1, 2]) ∧
  ∀ (n : Fin 24) (d : Nat) (s : State), s.composer.schedules.length = 24 →
    let held := (frameCfg s.tables n).yields = true ∧ s.composer.climate = .standby
    ((s.schedule n).periodTimer = some d →
      let period := (s.schedule n).pendingPeriod.getD (s.schedule n).period
      let s1 := ({ s with now := max s.now d }).setSchedule n { s.schedule n with
        period := period, pendingPeriod := none, periodTimer := some (max s.now d + 10 * period) }
      exec (.framePeriodExpiry n) s = .next (if held then s1 else putCommandFrame n s1)) ∧
    ((s.schedule n).spacing = some d →
      let s1 := ({ s with now := max s.now d }).setSchedule n { s.schedule n with spacing := none }
      exec (.spacingExpiry n) s =
        .next (if held ∨ (s.schedule n).lastSent = some (buildContent s1 n) then s1 else putCommandFrame n s1)) ∧
    (let c := frameCfg s.tables n
     let l := s.schedule n
     let tested := c.valid = true ∧ c.sendOnChange = true ∧ ¬held ∧ l.lastSent ≠ some (buildContent s n)
     (¬tested → changeTest s n = s) ∧
     (tested → (∀ e, l.lastPut = some e → e + 10 * c.spacing ≤ s.now) → changeTest s n = putCommandFrame n s) ∧
     (∀ e, tested → l.lastPut = some e → s.now < e + 10 * c.spacing →
       changeTest s n = s.setSchedule n { l with spacing := some (l.spacing.getD (e + 10 * c.spacing)) }))

/-! ### Override stack -/

/-- PUSH, POP, REMOVE and CLEAR in ACTIVE (R155, R156): the entry on top with its lifetime, the bottom entry of a full stack
discarded and flagged, removals that keep the order of the rest. -/
def Obligations.DeskRequestsCarriedOut : Prop :=
  ∀ (p : Byte) (more : List Byte) (data : List Byte) (rest : List (List Byte)) (s : State),
    s.overrides.climate = .active → s.overrides.handOffs = data :: rest →
    let es := s.overrides.entries
    let after (n : List StackEntry) : State := { s with overrides := { s.overrides with handOffs := rest, entries := n } }
    let c := presetCfg s.tables p.toNat
    let others := es.filter fun e => e.preset != p.toNat
    let pushed : StackEntry :=
      { preset := p.toNat, lifetime := if c.lifetime = 0 then none else some (s.now + 1000 * c.lifetime) }
    (data = 1 :: p :: more → p.toNat < 8 → c.valid = true →
      (others.length < 4 → exec .push s = .next (after (pushed :: others))) ∧
      (4 ≤ others.length → exec .push s = .next (raise .overrideDiscard (after (pushed :: others.take 3))))) ∧
    (data = 2 :: more → ∀ e tail, es = e :: tail → exec .pop s = .next (after tail)) ∧
    (data = 3 :: p :: more → (∃ e ∈ es, e.preset = p.toNat) → exec .remove s = .next (after others)) ∧
    (data = 4 :: more → exec .clear s = .next (after []))

/-- DESK_REJECT and the rejections of PUSH, POP and REMOVE (R154 to R156): DESK_REJECT is set and the stack unchanged. That
each command takes its rejected hand-offs is log 33. -/
def Obligations.DeskRequestsRejected : Prop :=
  ∀ (data : List Byte) (rest : List (List Byte)) (s : State), s.overrides.handOffs = data :: rest →
    let s' : State := { s with overrides := { s.overrides with handOffs := rest } }
    (s.overrides.climate = .standby ∨ data = [] ∨ (∃ a more, data = a :: more ∧ (a.toNat = 0 ∨ 4 < a.toNat)) ∨
        data = [1] ∨ data = [3] →
      exec .deskReject s = .next (raise .deskReject s')) ∧
    (s.overrides.climate = .active →
      (∀ p more, data = 1 :: p :: more → (8 ≤ p.toNat ∨ (presetCfg s.tables p.toNat).valid = false) →
        exec .push s = .next (raise .deskReject s')) ∧
      (∀ more, data = 2 :: more → s.overrides.entries = [] → exec .pop s = .next (raise .deskReject s')) ∧
      (∀ p more, data = 3 :: p :: more → (∀ e ∈ s.overrides.entries, e.preset ≠ p.toNat) →
        exec .remove s = .next (raise .deskReject s')))

/-- LIFETIME_EXPIRY (R157) and the effective override (R158): the lapsed entry alone leaves; every field comes from the top
entry's preset, the screen floor is the highest of the whole stack, and an empty stack is neutral. That the command takes the
clock to the timer's end is the model's (log 1, log 2). -/
def Obligations.LifetimesAndEffectiveOverride : Prop :=
  (∀ (p : Fin 8) (d : Nat) (e : StackEntry) (s : State),
    (s.overrides.entries.find? fun x => x.preset == p.val) = some e → e.lifetime = some d →
      exec (.lifetimeExpiry p) s = .next { s with
        now := max s.now d
        overrides := { s.overrides with entries := s.overrides.entries.filter fun x => x.preset != p.val } }) ∧
  (∀ (t : Tables), effectiveOverride t [] = {}) ∧
  ∀ (t : Tables) (top : StackEntry) (es : List StackEntry),
    let o := effectiveOverride t (top :: es)
    let c := presetCfg t top.preset
    o.cabOffset = c.cabOffset ∧ o.saloonOffset = c.saloonOffset ∧ o.cabMode = c.cabMode ∧ o.saloonMode = c.saloonMode ∧
    o.recirculation = c.recirculation ∧ o.curtainInhibit = c.curtainInhibit ∧ o.blowerFloor = c.blowerFloor ∧
    (∀ e ∈ top :: es, (presetCfg t e.preset).screenFloor ≤ o.screenFloor) ∧
    (∃ e ∈ top :: es, o.screenFloor = (presetCfg t e.preset).screenFloor)

/-! ### Management -/

/-- Replies, READ_RECORD and READ_STATE (R162 to R164, R177, R179): the checks in their order, the reply on MB + 1 with the
echoed code, its status and six bytes, the words of every item of every object; nothing else changes. That an unknown kind
or item comes before the index is log 23; how a header without a valid signature reads is log 5, and that a running write
leaves the header's reading as it was log 40; the rounding of timers and of the time since the last put is log 20, and what
absent values and unused words read as log 21. That the supply unit's items show the unit's own values is log 32. -/
def Obligations.ReadsAnswered : Prop :=
  (∀ (code : Nat) (st : Status) (s : State), reply code st s =
    putFrame .bp .control
      { frame := { ident := .standard (s.classifier.mb + 1), kind := .data, lengthCode := 8,
                   data := BitVec.ofNat 8 code :: BitVec.ofNat 8 st.code :: List.replicate 6 0 }
        origin := .reply false } s) ∧
  ([Status.ok, .badRequest, .badTable, .badIndex, .badValue, .badState, .busy, .storeFault, .invalid].map Status.code
      = [0, 1, 2, 3, 4, 5, 6, 7, 8] ∧
    [LoadState.empty, .loading, .complete, .failed].map LoadState.code = [0, 1, 2, 3] ∧
    [FailureCause.none, .sequence, .timeout].map FailureCause.code = [0, 1, 2] ∧
    [SwitchKind.reset, .newMb].map SwitchKind.code = [1, 2] ∧ [StartCause.power, .command].map StartCause.code = [0, 1] ∧
    [TxClass.urgent, .control, .bulk].map TxClass.code = [0, 1, 2] ∧
    [SlotState.never, .fresh, .stale, .implausible].map SlotState.code = [0, 1, 2, 3] ∧
    [Quality.good, .degraded, .none].map Quality.code = [0, 1, 2] ∧
    [ZoneCondition.idle, .regulating, .fallback].map ZoneCondition.code = [0, 1, 2] ∧
    [OverrideMode.normal, .ventOnly, .off].map OverrideMode.code = [0, 1, 2] ∧
    [VehicleMode.parked, .prepare, .service, .layover, .wash].map VehicleMode.code = [0, 1, 2, 3, 4] ∧
    [DoorState.idle, .ready, .opened, .runOn, .layover, .fault].map DoorState.code = [0, 1, 2, 3, 4, 5] ∧
    [FanLevel.off, .low, .on].map FanLevel.code = [0, 1, 2] ∧
    [ScreenBasis.margin, .iceTest, .glassLost, .airLost].map ScreenBasis.code = [0, 1, 2, 3] ∧
    [ZoneClass.cab, .saloon].map ZoneClass.shareCode = [0, 1]) ∧
  (∀ im : Image, (im.signed = true → signatureWord im = 0x5A3C) ∧
    (im.signed = false → signatureWord im ≠ 0x5A3C ∧ signatureWord im < 65536)) ∧
  (∀ kind : Nat, objectCount kind = [1, 2, 96, 8, 6, 2, 1, 48, 24, 4][kind]?) ∧
  (∀ (s : State) (i item : Nat),
    let m := s.mgmt
    let u := s.supply
    let pub := u.lastPub
    let time (t : Timer) : Int := match t with
      | some d => ((d - s.now) / 10 : Nat)
      | none => 0xFFFF
    let may (x : Option Nat) : Int := match x with
      | some v => v
      | none => 0xFFFF
    let yes (b : Bool) : Int := if b = true then 1 else 0
    let one (x : Int) : Words := { w1 := x }
    let present (x : Option Int) : Words := match x with
      | some v => { w1 := 1, w2 := v }
      | none => { w1 := 0, w2 := 0 }
    let pair (x : Share) : Words := { w1 := x.request, w2 := x.grant }
    let port : Port := if i = 0 then s.bp else s.fp
    let slot := s.slot i
    let zone := s.zone i
    let door := s.door i
    let screen := s.screen i
    let sent := (s.schedule i).lastSent.getD []
    stateItem s 0 i item = ([
      one m.load.code,
      match m.window with
        | some w => { w1 := w.table.number, w2 := w.first, w3 := w.count }
        | none => { w1 := 0xFFFF, w2 := 0xFFFF, w3 := 0xFFFF },
      { w1 := m.buffer.length, w2 := may (m.window.map fun w => w.count * w.table.size) },
      one m.expected, one (time m.timer), one m.failure.code, one m.stray,
      match m.store with
        | some r => { w1 := 1, w2 := r.mask.toNat }
        | none => { w1 := 0, w2 := 0 },
      match m.switch with
        | some w => { w1 := w.kind.code, w2 := time w.timer }
        | none => { w1 := 0, w2 := 0xFFFF },
      { w1 := (m.flags.toNat % 65536 : Nat), w2 := (m.flags.toNat / 65536 : Nat) },
      { w1 := (m.enables.toNat % 65536 : Nat), w2 := (m.enables.toNat / 65536 : Nat) },
      one m.cause.code,
      { w1 := signatureWord s.image
        w2 := (((List.range 7).map fun g => (s.image.codes.getD g 0).toNat * 4 ^ g).sum : Nat) }] : List Words)[item]? ∧
    stateItem s 1 i item = ([
      one port.rx.length, one port.urgent.length, one port.control.length, one port.bulk.length, one port.err.code,
      one port.tec, one (time port.hold),
      match port.offer with
        | none => one 0xFFFF
        | some o => match o.carried.origin with
          | .forwarded => { w1 := o.cls.code, w2 := 0 }
          | .reply _ => { w1 := o.cls.code, w2 := 1 }
          | .eventReport => { w1 := o.cls.code, w2 := 2 }
          | .commandFrame n => { w1 := o.cls.code, w2 := 3, w3 := n },
      one port.counters.rxAccepted, one port.counters.overrun, one port.counters.rxError, one port.counters.lengthShort,
      one port.counters.txSent, one port.counters.txError, one port.counters.txDrop, one port.counters.flushed,
      one port.counters.busOffEpisodes] : List Words)[item]? ∧
    stateItem s 2 i item = ([
      one slot.state.code, present slot.lastWritten, present slot.lastGood, one (time slot.timer), present slot.reference,
      one slot.implausible, one (s.read (some i)).1, one (s.read (some i)).2.code] : List Words)[item]? ∧
    stateItem s 3 i item = ([
      one zone.condition.code, one zone.profile, one zone.setpoint, one zone.temp, one zone.tier.code, one zone.mode.code,
      one zone.integral, one zone.rawDemand, one zone.demand, one zone.blower, one zone.damper, one zone.request,
      one zone.storageRequest, one (time zone.hold), one (time zone.step), one s.regulator.climate.code,
      one s.regulator.mode.code] : List Words)[item]? ∧
    stateItem s 4 i item = ([
      one door.state.code, one door.stage, one door.heldStage, one door.fan.code, one door.debt, one door.ff,
      one door.request, one (time door.period), one (time door.openTimer), one (time door.runOn),
      one (time door.signalLost)] : List Words)[item]? ∧
    stateItem s 5 i item = ([
      one screen.condition.level, one screen.basis.code, one screen.conditionLevel, one screen.effectiveLevel,
      one screen.depression, one screen.dewPoint, one screen.margin, one screen.request,
      one (time screen.timer)] : List Words)[item]? ∧
    stateItem s 6 i item = ([
      one u.state.code, one (may u.lastLine), one (time u.resumeDelay), one (time u.longBreak), one u.target, one u.surplus,
      one u.ceiling, one (time u.budget), one pub.supply.code, one pub.ceiling, one pub.surplus, one pub.shortClass.code]
      ++ ((List.range 48).map fun k => pair (pub.outputs.getD k {}))
      ++ ((List.range 2).map fun k => pair (pub.screens.getD k {}))
      ++ ((List.range 8).flatMap fun k =>
        let z := pub.zones.getD k {}
        [{ w1 := z.cls.shareCode, w2 := z.request, w3 := z.grant },
          { w1 := yes z.limited, w2 := z.storageRequest, w3 := z.storageGrant }])
      ++ ((List.range 6).map fun k => pair (pub.doors.getD k {})) : List Words)[item]? ∧
    stateItem s 7 i item = ([
      one (s.output i).value, one (may (s.output i).forced), one (yes (s.output i).failed),
      one (s.output i).fRequest] : List Words)[item]? ∧
    stateItem s 8 i item = ([
      one (s.schedule i).period, one (may (s.schedule i).pendingPeriod), one (time (s.schedule i).periodTimer),
      one (may ((s.schedule i).lastPut.map fun e => min 0xFFFE ((s.now - e) / 10))), one (time (s.schedule i).spacing),
      { w1 := u16 sent 0, w2 := u16 sent 2, w3 := u16 sent 4 },
      { w1 := u16 sent 6, w2 := may ((s.schedule i).lastSent.map List.length) }] : List Words)[item]? ∧
    stateItem s 9 i item = ([
      one s.overrides.entries.length, one (may (s.overrides.entries[i]?.map (·.preset))),
      match s.overrides.entries[i]? with
        | some { preset := _, lifetime := some d } => one ((d - s.now + 999) / 1000 : Nat)
        | _ => one 0xFFFF] : List Words)[item]?) ∧
  ∀ (a b c : Byte) (more : List Byte) (rest : List Captured) (s : State), s.mgmt.switch = none →
    let s' : State := { s with mgmt := { s.mgmt with captured := rest } }
    let answer (code status : Byte) (bytes : List Byte) : State :=
      putFrame .bp .control
        { frame := { ident := .standard (s.classifier.mb + 1), kind := .data, lengthCode := 8,
                     data := code :: status :: bytes }
          origin := .reply false } s'
    (s.mgmt.captured = .request (1 :: a :: b :: c :: more) :: rest →
      (TableId.ofNumber a.toNat = none → exec .readRecord s = .next (answer 1 2 (List.replicate 6 0))) ∧
      ∀ k, TableId.ofNumber a.toNat = some k →
        (k.count ≤ b.toNat → exec .readRecord s = .next (answer 1 3 (List.replicate 6 0))) ∧
        (b.toNat < k.count → k.size ≤ c.toNat → exec .readRecord s = .next (answer 1 4 (List.replicate 6 0))) ∧
        (b.toNat < k.count → c.toNat < k.size → exec .readRecord s =
          .next (answer 1 0 ((List.range 6).map fun i => (record s.tables k b.toNat).getD (c.toNat + i) 0)))) ∧
    (s.mgmt.captured = .request (2 :: a :: b :: c :: more) :: rest →
      (stateItem s' a.toNat b.toNat c.toNat = none → exec .readState s = .next (answer 2 4 (List.replicate 6 0))) ∧
      ∀ n w, objectCount a.toNat = some n → stateItem s' a.toNat b.toNat c.toNat = some w →
        (b.toNat < n → exec .readState s = .next (answer 2 0 (le16 w.w1 ++ le16 w.w2 ++ le16 w.w3))) ∧
        (n ≤ b.toNat → exec .readState s = .next (answer 2 3 (List.replicate 6 0))))

/-- LOAD_BEGIN and ABORT_LOAD (R165, R167): the checks in their order; a begun load stands empty with its window and 500 ms;
an aborted one is EMPTY, buffer and window discarded; no live table changes. That an aborted load keeps its expected segment
and its failure cause is log 22. -/
def Obligations.LoadBeginsAndAborts : Prop :=
  ∀ (a b c : Byte) (more : List Byte) (rest : List Captured) (s : State), s.mgmt.switch = none →
    let m' : Management := { s.mgmt with captured := rest }
    let s' : State := { s with mgmt := m' }
    (s.mgmt.captured = .request (3 :: a :: b :: c :: more) :: rest →
      (s.mgmt.store.isSome = true → exec .loadBegin s = .next (reply 3 .busy s')) ∧
      (s.mgmt.store = none → s.mgmt.load = .loading → exec .loadBegin s = .next (reply 3 .badState s')) ∧
      (s.mgmt.store = none → s.mgmt.load ≠ .loading →
        (TableId.ofNumber a.toNat = none → exec .loadBegin s = .next (reply 3 .badTable s')) ∧
        ∀ k, TableId.ofNumber a.toNat = some k →
          (c.toNat = 0 ∨ k.count < b.toNat + c.toNat → exec .loadBegin s = .next (reply 3 .badIndex s')) ∧
          (1 ≤ c.toNat → b.toNat + c.toNat ≤ k.count →
            exec .loadBegin s = .next (reply 3 .ok { s' with mgmt := { m' with
              load := .loading, window := some { table := k, first := b.toNat, count := c.toNat }, buffer := []
              expected := 0, failure := .none, timer := some (s.now + 500) } })))) ∧
    (s.mgmt.captured = .request (5 :: more) :: rest → s.mgmt.store = none →
      exec .abortLoad s = .next (reply 5 .ok { s' with mgmt := { m' with
        load := .empty, window := none, buffer := [], timer := none } }))

/-- LOAD_DATA and LOAD_TIMER_EXPIRY (R166): the expected segment is appended up to the total, which completes the load; another
segment or 500 ms without one fails it; anything else is stray. That a failed load keeps its window, buffer and expected
segment is log 22; that the timer's command takes the clock to its end is the model's (log 1, log 2). -/
def Obligations.LoadDataTaken : Prop :=
  ∀ (data payload : List Byte) (seg : Byte) (w : LoadWindow) (rest : List Captured) (s : State),
    let m' : Management := { s.mgmt with captured := rest }
    let total := w.count * w.table.size
    let buffer := (s.mgmt.buffer ++ payload).take total
    (s.mgmt.captured = .loadData data :: rest →
      (s.mgmt.load ≠ .loading ∨ data = [] →
        exec .loadData s = .next { s with mgmt := { m' with stray := min 65535 (s.mgmt.stray + 1) } }) ∧
      (s.mgmt.load = .loading → data = seg :: payload → s.mgmt.window = some w →
        (seg.toNat ≠ s.mgmt.expected →
          exec .loadData s = .next (raise .loadFailed { s with mgmt := { m' with
            load := .failed, failure := .sequence, timer := none } })) ∧
        (seg.toNat = s.mgmt.expected → buffer.length < total →
          exec .loadData s = .next { s with mgmt := { m' with
            buffer := buffer, expected := (s.mgmt.expected + 1) % 256, timer := some (s.now + 500) } }) ∧
        (seg.toNat = s.mgmt.expected → total ≤ buffer.length →
          exec .loadData s = .next (raise .loadDone { s with mgmt := { m' with
            load := .complete, buffer := buffer, expected := (s.mgmt.expected + 1) % 256, timer := none } })))) ∧
    (∀ d, s.mgmt.timer = some d →
      exec .loadTimerExpiry s = .next (raise .loadFailed { s with
        now := max s.now d
        mgmt := { s.mgmt with load := .failed, failure := .timeout, timer := none } }))

/-- ACTIVATE (R168, R169, R178, R54, R61, R80, R99, R114, R151, R160): the merge, the checks of every table, the refusals in
their order, with the buffer kept on a wrong table and the live table untouched by an invalid merge; a valid one replaces
exactly the window's records, empties the load, is taken by the blocks as each table's rule says and is answered OK, with a
NEW MB switch pending when the global record brings another MB. That the expected segment and the failure cause are kept is
log 22; that the doors' view of the climate state decides is log 3, and the mark on an activated zone log 29. That an
activated zone keeps its override mode in force, which R80 does not name, is log 14; that an activated door keeps its
waiting notices is log 26, and its ownStage is the model's own (log 12). -/
def Obligations.ActivateReplacesWindow : Prop :=
  (∀ (records : List Rec) (w : LoadWindow) (buffer : List Byte), mergedTable records w buffer =
    records.mapIdx fun i r => if w.first ≤ i ∧ i < w.first + w.count then
      (buffer.drop ((i - w.first) * w.table.size)).take w.table.size else r) ∧
  (∀ (k : TableId) (rs : List Rec),
    let slotOk (r : Rec) (i : Nat) : Prop := u8 r i < 96 ∨ u8 r i = 255
    let outputOk (r : Rec) (i : Nat) : Prop := u8 r i < 48 ∨ u8 r i = 255
    let each (p : Rec → Prop) : Prop := ∀ r ∈ rs, u8 r 0 ≠ 0 → p r
    let r0 := rs.getD 0 []
    validTable k rs = true ↔ match k with
      | .frameHandling => ∀ r ∈ rs, u8 r 0 % 2 = 1 → u8 r 7 ≤ 16 ∧ u8 r 6 + u8 r 7 ≤ 192
      | .bindings => ∀ r ∈ rs, u8 r 0 < 96
      | .slots => ∀ r ∈ rs, slotOk r 10
      | .zones => (rs.filter fun r => decide (u8 r 0 ≠ 0 ∧ u8 r 1 = 1)).length ≤ 1 ∧
        each fun r => (∀ i ∈ [3, 5, 7, 9, 11], slotOk r i) ∧ ∀ i ∈ [12, 13], outputOk r i
      | .outdoorCurve => ∀ i, i < 7 → s16 r0 (4 * i) < s16 r0 (4 * (i + 1))
      | .doors => each fun r => u8 r 1 < 96 ∧ slotOk r 2 ∧ outputOk r 4 ∧ outputOk r 5
      | .screens => each fun r => slotOk r 1 ∧ slotOk r 2 ∧ slotOk r 3 ∧ outputOk r 4
      | .depression => (∀ i, i < 10 → u16 r0 (2 * (i + 1)) ≤ u16 r0 (2 * i)) ∧ u16 r0 20 = 0
      | .outputs => each fun r => slotOk r 8
      | .globals => (u16 r0 0 % 4 = 0 ∧ u16 r0 0 ≤ 0x7FC) ∧ ∀ i, i < 7 → slotOk r0 (2 + i)
      | .classMap | .commandFrames | .presets => True) ∧
  ∀ (a : Byte) (more : List Byte) (rest : List Captured) (s : State),
    s.mgmt.captured = .request (4 :: a :: more) :: rest → s.mgmt.switch = none → s.mgmt.store = none →
    let s' : State := { s with mgmt := { s.mgmt with captured := rest } }
    let emptied (x : State) : State := { x with mgmt := { x.mgmt with
      load := .empty, window := none, buffer := [], timer := none } }
    (a.toNat = 0 ∨ 13 < a.toNat → exec .activate s = .next (reply 4 .badTable s')) ∧
    ∀ (k : TableId) (w : LoadWindow), k.number = a.toNat →
      let merged := mergedTable (s.tables.get k) w s.mgmt.buffer
      let inside (i : Nat) : Prop := w.first ≤ i ∧ i < w.first + w.count
      let live : State := { s' with tables := s.tables.set k merged }
      let g := globals live.tables
      let answered (x : State) : Prop := exec .activate s = .next (reply 4 .ok (emptied x))
      (∀ j : TableId, live.tables.get j = if j = k then merged else s.tables.get j) ∧
      (s.mgmt.load ≠ .complete → exec .activate s = .next (reply 4 .badState s')) ∧
      (s.mgmt.load = .complete → s.mgmt.window = some w → w.table ≠ k →
        exec .activate s = .next (reply 4 .badTable s')) ∧
      (s.mgmt.load = .complete → s.mgmt.window = some w → w.table = k → validTable k merged = false →
        exec .activate s = .next (reply 4 .invalid (emptied s'))) ∧
      (s.mgmt.load = .complete → s.mgmt.window = some w → w.table = k → validTable k merged = true →
        match k with
        | .slots =>
          let told : State := { live with
            slots := s.slots.mapIdx fun i l => if inside i then {} else l
            supply := { s.supply with notices := s.supply.notices ++ match g.lineSlot with
              | some i => if inside i ∧ (s.slot i).state = .fresh then
                  [.lineLeave i .never (slotCfg live.tables i).fallback .none] else []
              | none => [] } }
          answered (match g.modeSlot with
            | some i => if inside i then deriveClimate (told.read (some i)).1 told else told
            | none => told)
        | .zones => answered { live with regulator := { s.regulator with
            zones := s.regulator.zones.mapIdx fun z l => if inside z then
              { l with
                condition := .idle, integral := 0, rawDemand := 0, demand := 0, blower := 0, damper := 0, request := 0
                storageRequest := 0, hold := none, setpoint := 0, temp := 0, tier := .none, unpublished := true
                profile := if s.regulator.mode = .parked then 0
                  else (zoneCfg live.tables z).profileMap.getD (s.regulator.mode.code - 1) 0
                step := if (zoneCfg live.tables z).valid = true then some (s.now + 1000) else none }
              else l } }
        | .doors => answered { live with doors := { s.doors with
            doors := s.doors.doors.mapIdx fun d l => if inside d then
              { state := .idle, stage := 0, ownStage := 0, heldStage := 0, fan := .off, debt := 0, ff := 0, request := 0
                openTimer := none, runOn := none, notices := l.notices
                period := if (doorCfg live.tables d).valid = true then some (s.now + 1000) else none
                signalLost := if (doorCfg live.tables d).valid = true ∧ s.doors.climate = .active then
                  some (s.now + 1000 * g.signalLostTime) else none }
              else l } }
        | .screens => answered { live with screens := { s.screens with
            channels := s.screens.channels.mapIdx fun c l => if inside c then
              { condition := .clear, basis := .margin, conditionLevel := 0, effectiveLevel := 0, depression := 0
                dewPoint := 0, margin := 0, request := 0
                timer := if (screenCfg live.tables c).valid = true then some (s.now + 2000) else none }
              else l } }
        | .outputs => answered { live with composer := { s.composer with
            outputs := s.composer.outputs.mapIdx fun o l => if inside o then
              { value := 0, forced := none, failed := false, fRequest := 0 } else l } }
        | .commandFrames => answered { live with composer := { s.composer with
            schedules := s.composer.schedules.mapIdx fun n l => if inside n then
              (let c := frameCfg live.tables n
               { period := c.period, pendingPeriod := none, lastPut := none, spacing := none, lastSent := none
                 periodTimer := if c.valid = true then some (s.now + 10 * c.period) else none })
              else l } }
        | .presets => answered { live with overrides := { s.overrides with
            entries := s.overrides.entries.filter fun e =>
              decide (¬inside e.preset) || (presetCfg live.tables e.preset).valid } }
        | .globals =>
          let taken := emptied (deriveClimate (live.read g.modeSlot).1 live)
          exec .activate s = .next (if BitVec.ofNat 11 g.managementBase = s.classifier.mb then reply 4 .ok taken
            else replyThenSwitch 4 .newMb taken)
        | .frameHandling | .classMap | .bindings | .outdoorCurve | .depression => answered live)

/-- STORE, STORE_WRITE_END and STORE_TIMEOUT (R174): no immediate reply and 800 ms; a write completed by then stores the masked
groups, sets their codes and the signature and answers OK; a failed or late one leaves no signature and answers STORE_FAULT;
unmasked groups keep code and tables. What an ended write leaves of the masked groups is free (log 6); that the image shows
none of it before the end is log 40; that a timer's command takes the clock to its end is the model's (log 1, log 2). -/
def Obligations.StoreWritesImage : Prop :=
  ∀ (a : Byte) (more : List Byte) (rest : List Captured) (s : State),
    let s' : State := { s with mgmt := { s.mgmt with captured := rest } }
    (s.mgmt.captured = .request (6 :: a :: more) :: rest → s.mgmt.switch = none → s.mgmt.store = none →
      (s.mgmt.load = .loading → exec .store s = .next (reply 6 .busy s')) ∧
      (s.mgmt.load ≠ .loading → (a.toNat = 0 ∨ 128 ≤ a.toNat) → exec .store s = .next (reply 6 .badValue s')) ∧
      (s.mgmt.load ≠ .loading → 1 ≤ a.toNat → a.toNat < 128 →
        exec .store s = .next { s with mgmt := { s.mgmt with
          captured := rest, store := some { mask := a.setWidth 7, deadline := some (s.now + 800) } } })) ∧
    (∀ w, s.mgmt.store = some w →
      let late := ∃ d, w.deadline = some d ∧ d < s.now
      let kept (im : Image) : Prop :=
        (∀ g, g < 7 → w.mask.getLsbD g = false → im.codes.getD g 0 = s.image.codes.getD g 0) ∧
        ∀ k : TableId, w.mask.getLsbD k.group.number = false → im.stored.get k = s.image.stored.get k
      (¬late → ∃ im : Image,
        exec (.storeWriteEnd none) s =
          .next (reply 6 .ok { s with image := im, mgmt := { s.mgmt with store := none } }) ∧
        im.signed = true ∧ kept im ∧
        (∀ g, g < 7 → w.mask.getLsbD g = true → im.codes.getD g 0 = 1) ∧
        (∀ k : TableId, w.mask.getLsbD k.group.number = true → im.stored.get k = s.tables.get k)) ∧
      (∀ failed, late ∨ failed ≠ none → ∃ im : Image,
        exec (.storeWriteEnd failed) s = .next (reply 6 .storeFault
          { s with image := im, freeIndex := s.freeIndex + 1, mgmt := { s.mgmt with store := none } }) ∧
        im.signed = false ∧ kept im) ∧
      (∀ d, w.deadline = some d → ∃ im : Image,
        exec .storeTimeout s = .next (reply 6 .storeFault
          { s with
            now := max s.now d, image := im, freeIndex := s.freeIndex + 1, mgmt := { s.mgmt with store := none } }) ∧
        im.signed = false ∧ kept im))

/-- FORCE_OUTPUT, RELEASE_OUTPUT and SET_FRAME_PERIOD (R139, R140, R149, R170). -/
def Obligations.OutputsAndPeriodsSet : Prop :=
  ∀ (a b c e : Byte) (more : List Byte) (rest : List Captured) (s : State), s.mgmt.switch = none → s.mgmt.store = none →
    let s' : State := { s with mgmt := { s.mgmt with captured := rest } }
    let v := b.toNat + 256 * c.toNat
    let o := outputCfg s.tables a.toNat
    (s.mgmt.captured = .request (7 :: a :: b :: c :: more) :: rest →
      (48 ≤ a.toNat → exec .forceOutput s = .next (reply 7 .badIndex s')) ∧
      (a.toNat < 48 → o.valid = false → exec .forceOutput s = .next (reply 7 .badState s')) ∧
      (a.toNat < 48 → o.valid = true → o.kind.full < v → exec .forceOutput s = .next (reply 7 .badValue s')) ∧
      (a.toNat < 48 → o.valid = true → v ≤ o.kind.full →
        let off := (s.output a.toNat).failed = true ∨ (s.composer.copy.supply.cut = true ∧ o.conditioning = true)
        exec .forceOutput s = .next (reply 7 .ok (s'.setOutput a.toNat
          { forced := some v
            failed := (s.output a.toNat).failed
            value := if off then 0 else o.fit v (s.composer.copy.outputs.getD a.toNat {}).grant
            fRequest := if off then 0 else o.power v })))) ∧
    (s.mgmt.captured = .request (8 :: a :: more) :: rest →
      (48 ≤ a.toNat → a.toNat ≠ 255 → exec .releaseOutput s = .next (reply 8 .badIndex s')) ∧
      (a.toNat < 48 ∨ a.toNat = 255 →
        ∃ t, exec .releaseOutput s = .next (reply 8 .ok t) ∧
          t = { s' with composer := { s.composer with outputs := t.composer.outputs } } ∧
          ∀ (k : Nat) (l : OutputLive), t.composer.outputs[k]? = some l →
            l = (if (a.toNat = 255 ∨ a.toNat = k) ∧ (s.output k).forced.isSome = true then
              { s.output k with forced := none, value := 0, fRequest := 0 } else s.output k))) ∧
    (s.mgmt.captured = .request (9 :: a :: b :: c :: e :: more) :: rest →
      (24 ≤ a.toNat → exec .setFramePeriod s = .next (reply 9 .badIndex s')) ∧
      (a.toNat < 24 → (frameCfg s.tables a.toNat).valid = false →
        exec .setFramePeriod s = .next (reply 9 .badState s')) ∧
      (a.toNat < 24 → (frameCfg s.tables a.toNat).valid = true → (v = 0 ∨ 1000 < v) →
        exec .setFramePeriod s = .next (reply 9 .badValue s')) ∧
      (a.toNat < 24 → (frameCfg s.tables a.toNat).valid = true → 1 ≤ v → v ≤ 1000 →
        exec .setFramePeriod s = .next (reply 9 .ok (s'.setSchedule a.toNat
          (if e = 0 then { s.schedule a.toNat with pendingPeriod := some v }
           else { s.schedule a.toNat with
             period := v, pendingPeriod := none, periodTimer := some (s.now + 10 * v) })))))

/-- CLEAR_COUNTERS, CLEAR_EVENTS, REPORT_ENABLE and REPORT_DISABLE (R14, R52, R166, R170, R172, R173). That REPORT_ENABLE puts
a report whenever a masked flag is set, also one that was enabled before, is the model's reading (log 27). -/
def Obligations.CountersAndFlagsCleared : Prop :=
  ∀ (a b c : Byte) (more : List Byte) (rest : List Captured) (s : State), s.mgmt.switch = none → s.mgmt.store = none →
    let m' : Management := { s.mgmt with captured := rest }
    let s' : State := { s with mgmt := m' }
    let mask : BitVec 22 := a.setWidth 22 ||| (b.setWidth 22 <<< 8) ||| (c.setWidth 22 <<< 16)
    (s.mgmt.captured = .request (13 :: a :: more) :: rest →
      (2 < a.toNat → exec .clearCounters s = .next (reply 13 .badValue s')) ∧
      (a.toNat ≤ 2 →
        exec .clearCounters s = .next (reply 13 .ok { s' with
          bp := if a.toNat = 1 then s.bp else { s.bp with counters := {} }
          fp := if a.toNat = 0 then s.fp else { s.fp with counters := {} }
          slots := s.slots.map fun l => { l with implausible := 0 }
          mgmt := { m' with stray := 0 } }))) ∧
    (s.mgmt.captured = .request (12 :: a :: b :: c :: more) :: rest →
      exec .clearEvents s =
        .next (reply 12 .ok { s' with mgmt := { m' with flags := s.mgmt.flags &&& ~~~mask } })) ∧
    (s.mgmt.captured = .request (11 :: a :: b :: c :: more) :: rest →
      exec .reportDisable s =
        .next (reply 11 .ok { s' with mgmt := { m' with enables := s.mgmt.enables &&& ~~~mask } })) ∧
    (s.mgmt.captured = .request (10 :: a :: b :: c :: more) :: rest →
      let on : State := { s' with mgmt := { m' with enables := s.mgmt.enables ||| mask } }
      (s.mgmt.flags &&& mask = 0 → exec .reportEnable s = .next (reply 10 .ok on)) ∧
      (s.mgmt.flags &&& mask ≠ 0 → s.bp.outcome .urgent .eventReport ≠ .dropped →
        exec .reportEnable s =
          .next (reply 10 .ok { on with bp := s.bp.put .urgent (eventReport s s.mgmt.flags) })) ∧
      (s.mgmt.flags &&& mask ≠ 0 → s.bp.outcome .urgent .eventReport = .dropped →
        ∃ t, exec .reportEnable s = .next (reply 10 .ok t) ∧
          t = { on with bp := t.bp, mgmt := { on.mgmt with flags := s.mgmt.flags ||| Flag.txDrop.mask } } ∧
          t.bp = { s.bp with counters := t.bp.counters }))

/-- The making of a pending switch, RESET, and how a switch is carried out (R171): OK on MB + 1 of the MB still in force, and
pending with 100 ms; carried out at that reply's completion, and when the reply is lost (dropped, or BP in BUS_OFF) at the
timer's end, or at once where BP falls off after it; as a start with cause COMMAND, or by putting the live record's MB in
force. The mark on the reply whose completion is waited for is log 4; that the timer's command takes the clock to its end is
the model's (log 1, log 2). -/
def Obligations.PendingSwitchCarriedOut : Prop :=
  let carriedOut (k : SwitchKind) (x t : State) : Prop := match k with
    | .newMb => t = { x with
        classifier := { x.classifier with mb := BitVec.ofNat 11 (globals x.tables).managementBase }
        mgmt := { x.mgmt with switch := none } }
    | .reset => ∃ u, exec .powerOn x = .next u ∧
        (let v : State := { u with mgmt := { u.mgmt with cause := .command } }
         t = { v with bp := { urgent := [eventReport v v.mgmt.flags] } })
  (∀ (code : Nat) (k : SwitchKind) (s : State),
    let sent := putFrame .bp .control
      { frame := { ident := .standard (s.classifier.mb + 1), kind := .data, lengthCode := 8,
                   data := BitVec.ofNat 8 code :: 0 :: List.replicate 6 0 }
        origin := .reply true } s
    replyThenSwitch code k s = { sent with mgmt := { sent.mgmt with
      switch := some {
        kind := k
        timer := some (s.now + 100)
        replyLost := s.bp.outcome .control (.reply true) == .dropped } } }) ∧
  (∀ (more : List Byte) (rest : List Captured) (s : State),
    s.mgmt.captured = .request (15 :: more) :: rest → s.mgmt.switch = none → s.mgmt.store = none →
    exec .reset s = .next (replyThenSwitch 15 .reset { s with mgmt := { s.mgmt with captured := rest } })) ∧
  (∀ (o : Offer) (k : SwitchKind) (tm : Timer) (lost : Bool) (s : State), s.bp.offer = some o →
    o.carried.origin = .reply true → s.mgmt.switch = some { kind := k, timer := tm, replyLost := lost } →
    ∃ t, exec (.transmitComplete .bp) s = .next t ∧
      carriedOut k { s with bp := { s.bp.setQueue o.cls (s.bp.queue o.cls).tail with
        offer := none
        tec := s.bp.tec - 1
        err := if s.bp.tec - 1 ≤ 127 then .active else if s.bp.tec - 1 ≤ 255 then .passive else .busOff
        counters := { s.bp.counters with txSent := min 65535 (s.bp.counters.txSent + 1) } } } t) ∧
  (∀ (k : SwitchKind) (d : Nat) (lost : Bool) (s : State),
    s.mgmt.switch = some { kind := k, timer := some d, replyLost := lost } →
    ∃ t, exec .switchTimerExpiry s = .next t ∧
      (lost = true → carriedOut k { s with now := max s.now d } t) ∧
      (lost = false → t = { s with
        now := max s.now d
        mgmt := { s.mgmt with switch := some { kind := k, timer := none, replyLost := false } } })) ∧
  (∀ (o : Offer) (k : SwitchKind) (tm : Timer) (lost : Bool) (s : State), s.bp.offer = some o →
    256 ≤ s.bp.tec + 8 → s.mgmt.switch = some { kind := k, timer := tm, replyLost := lost } →
    let off := raise .busOff { s with bp := { s.bp with
      urgent := []
      control := []
      bulk := []
      offer := none
      tec := 256
      err := .busOff
      hold := some (s.now + 100)
      counters := { s.bp.counters with
        txError := min 65535 (s.bp.counters.txError + 1)
        flushed := min 65535 (s.bp.counters.flushed + (s.bp.urgent.length + s.bp.control.length + s.bp.bulk.length))
        busOffEpisodes := min 65535 (s.bp.counters.busOffEpisodes + 1) } } }
    ∃ t, exec (.transmitError .bp) s = .next t ∧
      ((∀ d, tm = some d → d ≤ s.now) → carriedOut k off t) ∧
      (∀ d, tm = some d → s.now < d → t = { off with mgmt := { off.mgmt with
        switch := some { kind := k, timer := tm, replyLost := true } } }))

/-- What makes a request well formed (R162, R177: a code 01h to 0Fh and its minimum length), UNKNOWN_REQUEST and BUSY (R162):
a malformed request is answered BAD_REQUEST with its first byte echoed, 00h for an empty one; a well-formed request that meets
a pending switch, or a STORE unless it is a read, is answered BUSY. Neither has any other effect. A malformed request that
meets a busy part is log 8's and not stated. The BUSY reply's data is 0, but for a READ RECORD while NEW MB is pending: there
it holds the live record's bytes (R32), where the request names a record; that R32, R162 and R171 agree so is the model's
choice, log 43. -/
def Obligations.RequestsTurnedAway : Prop :=
  (∀ data : List Byte, wellFormedRequest data = true ↔
    ∃ c n, (c, n) ∈ [(1, 4), (2, 4), (3, 4), (4, 2), (5, 1), (6, 2), (7, 4), (8, 2), (9, 5), (10, 4), (11, 4), (12, 4),
        (13, 2), (14, 1), (15, 1)] ∧
      data.head? = some (BitVec.ofNat 8 c) ∧ n ≤ data.length) ∧
  ∀ (data : List Byte) (rest : List Captured) (s : State), s.mgmt.captured = .request data :: rest →
    let s' : State := { s with mgmt := { s.mgmt with captured := rest } }
    (wellFormedRequest data = false → s.mgmt.switch = none → s.mgmt.store = none →
      exec .unknownRequest s = .next (reply (u8 data 0) .badRequest s')) ∧
    (∀ c n, (c, n) ∈ [(Instr.readRecord, 1), (.readState, 2), (.loadBegin, 3), (.activate, 4), (.abortLoad, 5),
          (.store, 6), (.forceOutput, 7), (.releaseOutput, 8), (.setFramePeriod, 9), (.reportEnable, 10),
          (.reportDisable, 11), (.clearEvents, 12), (.clearCounters, 13), (.resume, 14), (.reset, 15)] →
      u8 data 0 = n → wellFormedRequest data = true →
      (s.mgmt.switch.isSome = true ∨ (s.mgmt.store.isSome = true ∧ 2 < n)) →
      (n = 1 → ∀ tm lost, s.mgmt.switch ≠ some { kind := .newMb, timer := tm, replyLost := lost }) →
      exec c s = .next (reply n .busy s')) ∧
    (∀ tm lost, u8 data 0 = 1 → wellFormedRequest data = true →
      s.mgmt.switch = some { kind := .newMb, timer := tm, replyLost := lost } →
      (∀ t, TableId.ofNumber (u8 data 1) = some t → u8 data 2 < t.count → u8 data 3 < t.size →
        exec .readRecord s = .next (replyWith 1 .busy
          (((record s.tables t (u8 data 2)).drop (u8 data 3) ++ List.replicate 6 0).take 6) s')) ∧
      ((∀ t, TableId.ofNumber (u8 data 1) = some t → t.count ≤ u8 data 2 ∨ t.size ≤ u8 data 3) →
        exec .readRecord s = .next (reply 1 .busy s')))

end
end

