-- ==== Sys2Proof/Laws/State.lean ====
section
/-! SUPPORT. What each replacement of a part of the state leaves in each field, all by computation, so that no later proof
unfolds a record update. -/

namespace Sys2Proof.Machine

/-! ### setPhase -/

@[simp] theorem State.setPhase_phase (s : State) (x : Phase) : (s.setPhase x).phase = x := rfl
@[simp] theorem State.setPhase_now (s : State) (x : Phase) : (s.setPhase x).now = s.now := rfl
@[simp] theorem State.setPhase_freeIndex (s : State) (x : Phase) : (s.setPhase x).freeIndex = s.freeIndex := rfl
@[simp] theorem State.setPhase_tables (s : State) (x : Phase) : (s.setPhase x).tables = s.tables := rfl
@[simp] theorem State.setPhase_image (s : State) (x : Phase) : (s.setPhase x).image = s.image := rfl
@[simp] theorem State.setPhase_bp (s : State) (x : Phase) : (s.setPhase x).bp = s.bp := rfl
@[simp] theorem State.setPhase_fp (s : State) (x : Phase) : (s.setPhase x).fp = s.fp := rfl
@[simp] theorem State.setPhase_classifier (s : State) (x : Phase) : (s.setPhase x).classifier = s.classifier := rfl
@[simp] theorem State.setPhase_binder (s : State) (x : Phase) : (s.setPhase x).binder = s.binder := rfl
@[simp] theorem State.setPhase_slots (s : State) (x : Phase) : (s.setPhase x).slots = s.slots := rfl
@[simp] theorem State.setPhase_regulator (s : State) (x : Phase) : (s.setPhase x).regulator = s.regulator := rfl
@[simp] theorem State.setPhase_doors (s : State) (x : Phase) : (s.setPhase x).doors = s.doors := rfl
@[simp] theorem State.setPhase_screens (s : State) (x : Phase) : (s.setPhase x).screens = s.screens := rfl
@[simp] theorem State.setPhase_supply (s : State) (x : Phase) : (s.setPhase x).supply = s.supply := rfl
@[simp] theorem State.setPhase_composer (s : State) (x : Phase) : (s.setPhase x).composer = s.composer := rfl
@[simp] theorem State.setPhase_overrides (s : State) (x : Phase) : (s.setPhase x).overrides = s.overrides := rfl
@[simp] theorem State.setPhase_mgmt (s : State) (x : Phase) : (s.setPhase x).mgmt = s.mgmt := rfl
@[simp] theorem State.setPhase_pending (s : State) (x : Phase) : (s.setPhase x).pending = s.pending := rfl

/-! ### setNow -/

@[simp] theorem State.setNow_phase (s : State) (x : Nat) : (s.setNow x).phase = s.phase := rfl
@[simp] theorem State.setNow_now (s : State) (x : Nat) : (s.setNow x).now = x := rfl
@[simp] theorem State.setNow_freeIndex (s : State) (x : Nat) : (s.setNow x).freeIndex = s.freeIndex := rfl
@[simp] theorem State.setNow_tables (s : State) (x : Nat) : (s.setNow x).tables = s.tables := rfl
@[simp] theorem State.setNow_image (s : State) (x : Nat) : (s.setNow x).image = s.image := rfl
@[simp] theorem State.setNow_bp (s : State) (x : Nat) : (s.setNow x).bp = s.bp := rfl
@[simp] theorem State.setNow_fp (s : State) (x : Nat) : (s.setNow x).fp = s.fp := rfl
@[simp] theorem State.setNow_classifier (s : State) (x : Nat) : (s.setNow x).classifier = s.classifier := rfl
@[simp] theorem State.setNow_binder (s : State) (x : Nat) : (s.setNow x).binder = s.binder := rfl
@[simp] theorem State.setNow_slots (s : State) (x : Nat) : (s.setNow x).slots = s.slots := rfl
@[simp] theorem State.setNow_regulator (s : State) (x : Nat) : (s.setNow x).regulator = s.regulator := rfl
@[simp] theorem State.setNow_doors (s : State) (x : Nat) : (s.setNow x).doors = s.doors := rfl
@[simp] theorem State.setNow_screens (s : State) (x : Nat) : (s.setNow x).screens = s.screens := rfl
@[simp] theorem State.setNow_supply (s : State) (x : Nat) : (s.setNow x).supply = s.supply := rfl
@[simp] theorem State.setNow_composer (s : State) (x : Nat) : (s.setNow x).composer = s.composer := rfl
@[simp] theorem State.setNow_overrides (s : State) (x : Nat) : (s.setNow x).overrides = s.overrides := rfl
@[simp] theorem State.setNow_mgmt (s : State) (x : Nat) : (s.setNow x).mgmt = s.mgmt := rfl
@[simp] theorem State.setNow_pending (s : State) (x : Nat) : (s.setNow x).pending = s.pending := rfl

/-! ### setFreeIndex -/

@[simp] theorem State.setFreeIndex_phase (s : State) (x : Nat) : (s.setFreeIndex x).phase = s.phase := rfl
@[simp] theorem State.setFreeIndex_now (s : State) (x : Nat) : (s.setFreeIndex x).now = s.now := rfl
@[simp] theorem State.setFreeIndex_freeIndex (s : State) (x : Nat) : (s.setFreeIndex x).freeIndex = x := rfl
@[simp] theorem State.setFreeIndex_tables (s : State) (x : Nat) : (s.setFreeIndex x).tables = s.tables := rfl
@[simp] theorem State.setFreeIndex_image (s : State) (x : Nat) : (s.setFreeIndex x).image = s.image := rfl
@[simp] theorem State.setFreeIndex_bp (s : State) (x : Nat) : (s.setFreeIndex x).bp = s.bp := rfl
@[simp] theorem State.setFreeIndex_fp (s : State) (x : Nat) : (s.setFreeIndex x).fp = s.fp := rfl
@[simp] theorem State.setFreeIndex_classifier (s : State) (x : Nat) : (s.setFreeIndex x).classifier = s.classifier := rfl
@[simp] theorem State.setFreeIndex_binder (s : State) (x : Nat) : (s.setFreeIndex x).binder = s.binder := rfl
@[simp] theorem State.setFreeIndex_slots (s : State) (x : Nat) : (s.setFreeIndex x).slots = s.slots := rfl
@[simp] theorem State.setFreeIndex_regulator (s : State) (x : Nat) : (s.setFreeIndex x).regulator = s.regulator := rfl
@[simp] theorem State.setFreeIndex_doors (s : State) (x : Nat) : (s.setFreeIndex x).doors = s.doors := rfl
@[simp] theorem State.setFreeIndex_screens (s : State) (x : Nat) : (s.setFreeIndex x).screens = s.screens := rfl
@[simp] theorem State.setFreeIndex_supply (s : State) (x : Nat) : (s.setFreeIndex x).supply = s.supply := rfl
@[simp] theorem State.setFreeIndex_composer (s : State) (x : Nat) : (s.setFreeIndex x).composer = s.composer := rfl
@[simp] theorem State.setFreeIndex_overrides (s : State) (x : Nat) : (s.setFreeIndex x).overrides = s.overrides := rfl
@[simp] theorem State.setFreeIndex_mgmt (s : State) (x : Nat) : (s.setFreeIndex x).mgmt = s.mgmt := rfl
@[simp] theorem State.setFreeIndex_pending (s : State) (x : Nat) : (s.setFreeIndex x).pending = s.pending := rfl

/-! ### setTables -/

@[simp] theorem State.setTables_phase (s : State) (x : Tables) : (s.setTables x).phase = s.phase := rfl
@[simp] theorem State.setTables_now (s : State) (x : Tables) : (s.setTables x).now = s.now := rfl
@[simp] theorem State.setTables_freeIndex (s : State) (x : Tables) : (s.setTables x).freeIndex = s.freeIndex := rfl
@[simp] theorem State.setTables_tables (s : State) (x : Tables) : (s.setTables x).tables = x := rfl
@[simp] theorem State.setTables_image (s : State) (x : Tables) : (s.setTables x).image = s.image := rfl
@[simp] theorem State.setTables_bp (s : State) (x : Tables) : (s.setTables x).bp = s.bp := rfl
@[simp] theorem State.setTables_fp (s : State) (x : Tables) : (s.setTables x).fp = s.fp := rfl
@[simp] theorem State.setTables_classifier (s : State) (x : Tables) : (s.setTables x).classifier = s.classifier := rfl
@[simp] theorem State.setTables_binder (s : State) (x : Tables) : (s.setTables x).binder = s.binder := rfl
@[simp] theorem State.setTables_slots (s : State) (x : Tables) : (s.setTables x).slots = s.slots := rfl
@[simp] theorem State.setTables_regulator (s : State) (x : Tables) : (s.setTables x).regulator = s.regulator := rfl
@[simp] theorem State.setTables_doors (s : State) (x : Tables) : (s.setTables x).doors = s.doors := rfl
@[simp] theorem State.setTables_screens (s : State) (x : Tables) : (s.setTables x).screens = s.screens := rfl
@[simp] theorem State.setTables_supply (s : State) (x : Tables) : (s.setTables x).supply = s.supply := rfl
@[simp] theorem State.setTables_composer (s : State) (x : Tables) : (s.setTables x).composer = s.composer := rfl
@[simp] theorem State.setTables_overrides (s : State) (x : Tables) : (s.setTables x).overrides = s.overrides := rfl
@[simp] theorem State.setTables_mgmt (s : State) (x : Tables) : (s.setTables x).mgmt = s.mgmt := rfl
@[simp] theorem State.setTables_pending (s : State) (x : Tables) : (s.setTables x).pending = s.pending := rfl

/-! ### setImage -/

@[simp] theorem State.setImage_phase (s : State) (x : Image) : (s.setImage x).phase = s.phase := rfl
@[simp] theorem State.setImage_now (s : State) (x : Image) : (s.setImage x).now = s.now := rfl
@[simp] theorem State.setImage_freeIndex (s : State) (x : Image) : (s.setImage x).freeIndex = s.freeIndex := rfl
@[simp] theorem State.setImage_tables (s : State) (x : Image) : (s.setImage x).tables = s.tables := rfl
@[simp] theorem State.setImage_image (s : State) (x : Image) : (s.setImage x).image = x := rfl
@[simp] theorem State.setImage_bp (s : State) (x : Image) : (s.setImage x).bp = s.bp := rfl
@[simp] theorem State.setImage_fp (s : State) (x : Image) : (s.setImage x).fp = s.fp := rfl
@[simp] theorem State.setImage_classifier (s : State) (x : Image) : (s.setImage x).classifier = s.classifier := rfl
@[simp] theorem State.setImage_binder (s : State) (x : Image) : (s.setImage x).binder = s.binder := rfl
@[simp] theorem State.setImage_slots (s : State) (x : Image) : (s.setImage x).slots = s.slots := rfl
@[simp] theorem State.setImage_regulator (s : State) (x : Image) : (s.setImage x).regulator = s.regulator := rfl
@[simp] theorem State.setImage_doors (s : State) (x : Image) : (s.setImage x).doors = s.doors := rfl
@[simp] theorem State.setImage_screens (s : State) (x : Image) : (s.setImage x).screens = s.screens := rfl
@[simp] theorem State.setImage_supply (s : State) (x : Image) : (s.setImage x).supply = s.supply := rfl
@[simp] theorem State.setImage_composer (s : State) (x : Image) : (s.setImage x).composer = s.composer := rfl
@[simp] theorem State.setImage_overrides (s : State) (x : Image) : (s.setImage x).overrides = s.overrides := rfl
@[simp] theorem State.setImage_mgmt (s : State) (x : Image) : (s.setImage x).mgmt = s.mgmt := rfl
@[simp] theorem State.setImage_pending (s : State) (x : Image) : (s.setImage x).pending = s.pending := rfl

/-! ### setClassifier -/

@[simp] theorem State.setClassifier_phase (s : State) (x : Classifier) : (s.setClassifier x).phase = s.phase := rfl
@[simp] theorem State.setClassifier_now (s : State) (x : Classifier) : (s.setClassifier x).now = s.now := rfl
@[simp] theorem State.setClassifier_freeIndex (s : State) (x : Classifier) : (s.setClassifier x).freeIndex = s.freeIndex := rfl
@[simp] theorem State.setClassifier_tables (s : State) (x : Classifier) : (s.setClassifier x).tables = s.tables := rfl
@[simp] theorem State.setClassifier_image (s : State) (x : Classifier) : (s.setClassifier x).image = s.image := rfl
@[simp] theorem State.setClassifier_bp (s : State) (x : Classifier) : (s.setClassifier x).bp = s.bp := rfl
@[simp] theorem State.setClassifier_fp (s : State) (x : Classifier) : (s.setClassifier x).fp = s.fp := rfl
@[simp] theorem State.setClassifier_classifier (s : State) (x : Classifier) : (s.setClassifier x).classifier = x := rfl
@[simp] theorem State.setClassifier_binder (s : State) (x : Classifier) : (s.setClassifier x).binder = s.binder := rfl
@[simp] theorem State.setClassifier_slots (s : State) (x : Classifier) : (s.setClassifier x).slots = s.slots := rfl
@[simp] theorem State.setClassifier_regulator (s : State) (x : Classifier) : (s.setClassifier x).regulator = s.regulator := rfl
@[simp] theorem State.setClassifier_doors (s : State) (x : Classifier) : (s.setClassifier x).doors = s.doors := rfl
@[simp] theorem State.setClassifier_screens (s : State) (x : Classifier) : (s.setClassifier x).screens = s.screens := rfl
@[simp] theorem State.setClassifier_supply (s : State) (x : Classifier) : (s.setClassifier x).supply = s.supply := rfl
@[simp] theorem State.setClassifier_composer (s : State) (x : Classifier) : (s.setClassifier x).composer = s.composer := rfl
@[simp] theorem State.setClassifier_overrides (s : State) (x : Classifier) : (s.setClassifier x).overrides = s.overrides := rfl
@[simp] theorem State.setClassifier_mgmt (s : State) (x : Classifier) : (s.setClassifier x).mgmt = s.mgmt := rfl
@[simp] theorem State.setClassifier_pending (s : State) (x : Classifier) : (s.setClassifier x).pending = s.pending := rfl

/-! ### setBinder -/

@[simp] theorem State.setBinder_phase (s : State) (x : List HandOff) : (s.setBinder x).phase = s.phase := rfl
@[simp] theorem State.setBinder_now (s : State) (x : List HandOff) : (s.setBinder x).now = s.now := rfl
@[simp] theorem State.setBinder_freeIndex (s : State) (x : List HandOff) : (s.setBinder x).freeIndex = s.freeIndex := rfl
@[simp] theorem State.setBinder_tables (s : State) (x : List HandOff) : (s.setBinder x).tables = s.tables := rfl
@[simp] theorem State.setBinder_image (s : State) (x : List HandOff) : (s.setBinder x).image = s.image := rfl
@[simp] theorem State.setBinder_bp (s : State) (x : List HandOff) : (s.setBinder x).bp = s.bp := rfl
@[simp] theorem State.setBinder_fp (s : State) (x : List HandOff) : (s.setBinder x).fp = s.fp := rfl
@[simp] theorem State.setBinder_classifier (s : State) (x : List HandOff) : (s.setBinder x).classifier = s.classifier := rfl
@[simp] theorem State.setBinder_binder (s : State) (x : List HandOff) : (s.setBinder x).binder = x := rfl
@[simp] theorem State.setBinder_slots (s : State) (x : List HandOff) : (s.setBinder x).slots = s.slots := rfl
@[simp] theorem State.setBinder_regulator (s : State) (x : List HandOff) : (s.setBinder x).regulator = s.regulator := rfl
@[simp] theorem State.setBinder_doors (s : State) (x : List HandOff) : (s.setBinder x).doors = s.doors := rfl
@[simp] theorem State.setBinder_screens (s : State) (x : List HandOff) : (s.setBinder x).screens = s.screens := rfl
@[simp] theorem State.setBinder_supply (s : State) (x : List HandOff) : (s.setBinder x).supply = s.supply := rfl
@[simp] theorem State.setBinder_composer (s : State) (x : List HandOff) : (s.setBinder x).composer = s.composer := rfl
@[simp] theorem State.setBinder_overrides (s : State) (x : List HandOff) : (s.setBinder x).overrides = s.overrides := rfl
@[simp] theorem State.setBinder_mgmt (s : State) (x : List HandOff) : (s.setBinder x).mgmt = s.mgmt := rfl
@[simp] theorem State.setBinder_pending (s : State) (x : List HandOff) : (s.setBinder x).pending = s.pending := rfl

/-! ### setSlots -/

@[simp] theorem State.setSlots_phase (s : State) (x : List SlotLive) : (s.setSlots x).phase = s.phase := rfl
@[simp] theorem State.setSlots_now (s : State) (x : List SlotLive) : (s.setSlots x).now = s.now := rfl
@[simp] theorem State.setSlots_freeIndex (s : State) (x : List SlotLive) : (s.setSlots x).freeIndex = s.freeIndex := rfl
@[simp] theorem State.setSlots_tables (s : State) (x : List SlotLive) : (s.setSlots x).tables = s.tables := rfl
@[simp] theorem State.setSlots_image (s : State) (x : List SlotLive) : (s.setSlots x).image = s.image := rfl
@[simp] theorem State.setSlots_bp (s : State) (x : List SlotLive) : (s.setSlots x).bp = s.bp := rfl
@[simp] theorem State.setSlots_fp (s : State) (x : List SlotLive) : (s.setSlots x).fp = s.fp := rfl
@[simp] theorem State.setSlots_classifier (s : State) (x : List SlotLive) : (s.setSlots x).classifier = s.classifier := rfl
@[simp] theorem State.setSlots_binder (s : State) (x : List SlotLive) : (s.setSlots x).binder = s.binder := rfl
@[simp] theorem State.setSlots_slots (s : State) (x : List SlotLive) : (s.setSlots x).slots = x := rfl
@[simp] theorem State.setSlots_regulator (s : State) (x : List SlotLive) : (s.setSlots x).regulator = s.regulator := rfl
@[simp] theorem State.setSlots_doors (s : State) (x : List SlotLive) : (s.setSlots x).doors = s.doors := rfl
@[simp] theorem State.setSlots_screens (s : State) (x : List SlotLive) : (s.setSlots x).screens = s.screens := rfl
@[simp] theorem State.setSlots_supply (s : State) (x : List SlotLive) : (s.setSlots x).supply = s.supply := rfl
@[simp] theorem State.setSlots_composer (s : State) (x : List SlotLive) : (s.setSlots x).composer = s.composer := rfl
@[simp] theorem State.setSlots_overrides (s : State) (x : List SlotLive) : (s.setSlots x).overrides = s.overrides := rfl
@[simp] theorem State.setSlots_mgmt (s : State) (x : List SlotLive) : (s.setSlots x).mgmt = s.mgmt := rfl
@[simp] theorem State.setSlots_pending (s : State) (x : List SlotLive) : (s.setSlots x).pending = s.pending := rfl

/-! ### setRegulator -/

@[simp] theorem State.setRegulator_phase (s : State) (x : Regulator) : (s.setRegulator x).phase = s.phase := rfl
@[simp] theorem State.setRegulator_now (s : State) (x : Regulator) : (s.setRegulator x).now = s.now := rfl
@[simp] theorem State.setRegulator_freeIndex (s : State) (x : Regulator) : (s.setRegulator x).freeIndex = s.freeIndex := rfl
@[simp] theorem State.setRegulator_tables (s : State) (x : Regulator) : (s.setRegulator x).tables = s.tables := rfl
@[simp] theorem State.setRegulator_image (s : State) (x : Regulator) : (s.setRegulator x).image = s.image := rfl
@[simp] theorem State.setRegulator_bp (s : State) (x : Regulator) : (s.setRegulator x).bp = s.bp := rfl
@[simp] theorem State.setRegulator_fp (s : State) (x : Regulator) : (s.setRegulator x).fp = s.fp := rfl
@[simp] theorem State.setRegulator_classifier (s : State) (x : Regulator) : (s.setRegulator x).classifier = s.classifier := rfl
@[simp] theorem State.setRegulator_binder (s : State) (x : Regulator) : (s.setRegulator x).binder = s.binder := rfl
@[simp] theorem State.setRegulator_slots (s : State) (x : Regulator) : (s.setRegulator x).slots = s.slots := rfl
@[simp] theorem State.setRegulator_regulator (s : State) (x : Regulator) : (s.setRegulator x).regulator = x := rfl
@[simp] theorem State.setRegulator_doors (s : State) (x : Regulator) : (s.setRegulator x).doors = s.doors := rfl
@[simp] theorem State.setRegulator_screens (s : State) (x : Regulator) : (s.setRegulator x).screens = s.screens := rfl
@[simp] theorem State.setRegulator_supply (s : State) (x : Regulator) : (s.setRegulator x).supply = s.supply := rfl
@[simp] theorem State.setRegulator_composer (s : State) (x : Regulator) : (s.setRegulator x).composer = s.composer := rfl
@[simp] theorem State.setRegulator_overrides (s : State) (x : Regulator) : (s.setRegulator x).overrides = s.overrides := rfl
@[simp] theorem State.setRegulator_mgmt (s : State) (x : Regulator) : (s.setRegulator x).mgmt = s.mgmt := rfl
@[simp] theorem State.setRegulator_pending (s : State) (x : Regulator) : (s.setRegulator x).pending = s.pending := rfl

/-! ### setDoors -/

@[simp] theorem State.setDoors_phase (s : State) (x : DoorUnit) : (s.setDoors x).phase = s.phase := rfl
@[simp] theorem State.setDoors_now (s : State) (x : DoorUnit) : (s.setDoors x).now = s.now := rfl
@[simp] theorem State.setDoors_freeIndex (s : State) (x : DoorUnit) : (s.setDoors x).freeIndex = s.freeIndex := rfl
@[simp] theorem State.setDoors_tables (s : State) (x : DoorUnit) : (s.setDoors x).tables = s.tables := rfl
@[simp] theorem State.setDoors_image (s : State) (x : DoorUnit) : (s.setDoors x).image = s.image := rfl
@[simp] theorem State.setDoors_bp (s : State) (x : DoorUnit) : (s.setDoors x).bp = s.bp := rfl
@[simp] theorem State.setDoors_fp (s : State) (x : DoorUnit) : (s.setDoors x).fp = s.fp := rfl
@[simp] theorem State.setDoors_classifier (s : State) (x : DoorUnit) : (s.setDoors x).classifier = s.classifier := rfl
@[simp] theorem State.setDoors_binder (s : State) (x : DoorUnit) : (s.setDoors x).binder = s.binder := rfl
@[simp] theorem State.setDoors_slots (s : State) (x : DoorUnit) : (s.setDoors x).slots = s.slots := rfl
@[simp] theorem State.setDoors_regulator (s : State) (x : DoorUnit) : (s.setDoors x).regulator = s.regulator := rfl
@[simp] theorem State.setDoors_doors (s : State) (x : DoorUnit) : (s.setDoors x).doors = x := rfl
@[simp] theorem State.setDoors_screens (s : State) (x : DoorUnit) : (s.setDoors x).screens = s.screens := rfl
@[simp] theorem State.setDoors_supply (s : State) (x : DoorUnit) : (s.setDoors x).supply = s.supply := rfl
@[simp] theorem State.setDoors_composer (s : State) (x : DoorUnit) : (s.setDoors x).composer = s.composer := rfl
@[simp] theorem State.setDoors_overrides (s : State) (x : DoorUnit) : (s.setDoors x).overrides = s.overrides := rfl
@[simp] theorem State.setDoors_mgmt (s : State) (x : DoorUnit) : (s.setDoors x).mgmt = s.mgmt := rfl
@[simp] theorem State.setDoors_pending (s : State) (x : DoorUnit) : (s.setDoors x).pending = s.pending := rfl

/-! ### setScreens -/

@[simp] theorem State.setScreens_phase (s : State) (x : ScreenUnit) : (s.setScreens x).phase = s.phase := rfl
@[simp] theorem State.setScreens_now (s : State) (x : ScreenUnit) : (s.setScreens x).now = s.now := rfl
@[simp] theorem State.setScreens_freeIndex (s : State) (x : ScreenUnit) : (s.setScreens x).freeIndex = s.freeIndex := rfl
@[simp] theorem State.setScreens_tables (s : State) (x : ScreenUnit) : (s.setScreens x).tables = s.tables := rfl
@[simp] theorem State.setScreens_image (s : State) (x : ScreenUnit) : (s.setScreens x).image = s.image := rfl
@[simp] theorem State.setScreens_bp (s : State) (x : ScreenUnit) : (s.setScreens x).bp = s.bp := rfl
@[simp] theorem State.setScreens_fp (s : State) (x : ScreenUnit) : (s.setScreens x).fp = s.fp := rfl
@[simp] theorem State.setScreens_classifier (s : State) (x : ScreenUnit) : (s.setScreens x).classifier = s.classifier := rfl
@[simp] theorem State.setScreens_binder (s : State) (x : ScreenUnit) : (s.setScreens x).binder = s.binder := rfl
@[simp] theorem State.setScreens_slots (s : State) (x : ScreenUnit) : (s.setScreens x).slots = s.slots := rfl
@[simp] theorem State.setScreens_regulator (s : State) (x : ScreenUnit) : (s.setScreens x).regulator = s.regulator := rfl
@[simp] theorem State.setScreens_doors (s : State) (x : ScreenUnit) : (s.setScreens x).doors = s.doors := rfl
@[simp] theorem State.setScreens_screens (s : State) (x : ScreenUnit) : (s.setScreens x).screens = x := rfl
@[simp] theorem State.setScreens_supply (s : State) (x : ScreenUnit) : (s.setScreens x).supply = s.supply := rfl
@[simp] theorem State.setScreens_composer (s : State) (x : ScreenUnit) : (s.setScreens x).composer = s.composer := rfl
@[simp] theorem State.setScreens_overrides (s : State) (x : ScreenUnit) : (s.setScreens x).overrides = s.overrides := rfl
@[simp] theorem State.setScreens_mgmt (s : State) (x : ScreenUnit) : (s.setScreens x).mgmt = s.mgmt := rfl
@[simp] theorem State.setScreens_pending (s : State) (x : ScreenUnit) : (s.setScreens x).pending = s.pending := rfl

/-! ### setSupply -/

@[simp] theorem State.setSupply_phase (s : State) (x : Supply) : (s.setSupply x).phase = s.phase := rfl
@[simp] theorem State.setSupply_now (s : State) (x : Supply) : (s.setSupply x).now = s.now := rfl
@[simp] theorem State.setSupply_freeIndex (s : State) (x : Supply) : (s.setSupply x).freeIndex = s.freeIndex := rfl
@[simp] theorem State.setSupply_tables (s : State) (x : Supply) : (s.setSupply x).tables = s.tables := rfl
@[simp] theorem State.setSupply_image (s : State) (x : Supply) : (s.setSupply x).image = s.image := rfl
@[simp] theorem State.setSupply_bp (s : State) (x : Supply) : (s.setSupply x).bp = s.bp := rfl
@[simp] theorem State.setSupply_fp (s : State) (x : Supply) : (s.setSupply x).fp = s.fp := rfl
@[simp] theorem State.setSupply_classifier (s : State) (x : Supply) : (s.setSupply x).classifier = s.classifier := rfl
@[simp] theorem State.setSupply_binder (s : State) (x : Supply) : (s.setSupply x).binder = s.binder := rfl
@[simp] theorem State.setSupply_slots (s : State) (x : Supply) : (s.setSupply x).slots = s.slots := rfl
@[simp] theorem State.setSupply_regulator (s : State) (x : Supply) : (s.setSupply x).regulator = s.regulator := rfl
@[simp] theorem State.setSupply_doors (s : State) (x : Supply) : (s.setSupply x).doors = s.doors := rfl
@[simp] theorem State.setSupply_screens (s : State) (x : Supply) : (s.setSupply x).screens = s.screens := rfl
@[simp] theorem State.setSupply_supply (s : State) (x : Supply) : (s.setSupply x).supply = x := rfl
@[simp] theorem State.setSupply_composer (s : State) (x : Supply) : (s.setSupply x).composer = s.composer := rfl
@[simp] theorem State.setSupply_overrides (s : State) (x : Supply) : (s.setSupply x).overrides = s.overrides := rfl
@[simp] theorem State.setSupply_mgmt (s : State) (x : Supply) : (s.setSupply x).mgmt = s.mgmt := rfl
@[simp] theorem State.setSupply_pending (s : State) (x : Supply) : (s.setSupply x).pending = s.pending := rfl

/-! ### setComposer -/

@[simp] theorem State.setComposer_phase (s : State) (x : Composer) : (s.setComposer x).phase = s.phase := rfl
@[simp] theorem State.setComposer_now (s : State) (x : Composer) : (s.setComposer x).now = s.now := rfl
@[simp] theorem State.setComposer_freeIndex (s : State) (x : Composer) : (s.setComposer x).freeIndex = s.freeIndex := rfl
@[simp] theorem State.setComposer_tables (s : State) (x : Composer) : (s.setComposer x).tables = s.tables := rfl
@[simp] theorem State.setComposer_image (s : State) (x : Composer) : (s.setComposer x).image = s.image := rfl
@[simp] theorem State.setComposer_bp (s : State) (x : Composer) : (s.setComposer x).bp = s.bp := rfl
@[simp] theorem State.setComposer_fp (s : State) (x : Composer) : (s.setComposer x).fp = s.fp := rfl
@[simp] theorem State.setComposer_classifier (s : State) (x : Composer) : (s.setComposer x).classifier = s.classifier := rfl
@[simp] theorem State.setComposer_binder (s : State) (x : Composer) : (s.setComposer x).binder = s.binder := rfl
@[simp] theorem State.setComposer_slots (s : State) (x : Composer) : (s.setComposer x).slots = s.slots := rfl
@[simp] theorem State.setComposer_regulator (s : State) (x : Composer) : (s.setComposer x).regulator = s.regulator := rfl
@[simp] theorem State.setComposer_doors (s : State) (x : Composer) : (s.setComposer x).doors = s.doors := rfl
@[simp] theorem State.setComposer_screens (s : State) (x : Composer) : (s.setComposer x).screens = s.screens := rfl
@[simp] theorem State.setComposer_supply (s : State) (x : Composer) : (s.setComposer x).supply = s.supply := rfl
@[simp] theorem State.setComposer_composer (s : State) (x : Composer) : (s.setComposer x).composer = x := rfl
@[simp] theorem State.setComposer_overrides (s : State) (x : Composer) : (s.setComposer x).overrides = s.overrides := rfl
@[simp] theorem State.setComposer_mgmt (s : State) (x : Composer) : (s.setComposer x).mgmt = s.mgmt := rfl
@[simp] theorem State.setComposer_pending (s : State) (x : Composer) : (s.setComposer x).pending = s.pending := rfl

/-! ### setOverrides -/

@[simp] theorem State.setOverrides_phase (s : State) (x : Overrides) : (s.setOverrides x).phase = s.phase := rfl
@[simp] theorem State.setOverrides_now (s : State) (x : Overrides) : (s.setOverrides x).now = s.now := rfl
@[simp] theorem State.setOverrides_freeIndex (s : State) (x : Overrides) : (s.setOverrides x).freeIndex = s.freeIndex := rfl
@[simp] theorem State.setOverrides_tables (s : State) (x : Overrides) : (s.setOverrides x).tables = s.tables := rfl
@[simp] theorem State.setOverrides_image (s : State) (x : Overrides) : (s.setOverrides x).image = s.image := rfl
@[simp] theorem State.setOverrides_bp (s : State) (x : Overrides) : (s.setOverrides x).bp = s.bp := rfl
@[simp] theorem State.setOverrides_fp (s : State) (x : Overrides) : (s.setOverrides x).fp = s.fp := rfl
@[simp] theorem State.setOverrides_classifier (s : State) (x : Overrides) : (s.setOverrides x).classifier = s.classifier := rfl
@[simp] theorem State.setOverrides_binder (s : State) (x : Overrides) : (s.setOverrides x).binder = s.binder := rfl
@[simp] theorem State.setOverrides_slots (s : State) (x : Overrides) : (s.setOverrides x).slots = s.slots := rfl
@[simp] theorem State.setOverrides_regulator (s : State) (x : Overrides) : (s.setOverrides x).regulator = s.regulator := rfl
@[simp] theorem State.setOverrides_doors (s : State) (x : Overrides) : (s.setOverrides x).doors = s.doors := rfl
@[simp] theorem State.setOverrides_screens (s : State) (x : Overrides) : (s.setOverrides x).screens = s.screens := rfl
@[simp] theorem State.setOverrides_supply (s : State) (x : Overrides) : (s.setOverrides x).supply = s.supply := rfl
@[simp] theorem State.setOverrides_composer (s : State) (x : Overrides) : (s.setOverrides x).composer = s.composer := rfl
@[simp] theorem State.setOverrides_overrides (s : State) (x : Overrides) : (s.setOverrides x).overrides = x := rfl
@[simp] theorem State.setOverrides_mgmt (s : State) (x : Overrides) : (s.setOverrides x).mgmt = s.mgmt := rfl
@[simp] theorem State.setOverrides_pending (s : State) (x : Overrides) : (s.setOverrides x).pending = s.pending := rfl

/-! ### setMgmt -/

@[simp] theorem State.setMgmt_phase (s : State) (x : Management) : (s.setMgmt x).phase = s.phase := rfl
@[simp] theorem State.setMgmt_now (s : State) (x : Management) : (s.setMgmt x).now = s.now := rfl
@[simp] theorem State.setMgmt_freeIndex (s : State) (x : Management) : (s.setMgmt x).freeIndex = s.freeIndex := rfl
@[simp] theorem State.setMgmt_tables (s : State) (x : Management) : (s.setMgmt x).tables = s.tables := rfl
@[simp] theorem State.setMgmt_image (s : State) (x : Management) : (s.setMgmt x).image = s.image := rfl
@[simp] theorem State.setMgmt_bp (s : State) (x : Management) : (s.setMgmt x).bp = s.bp := rfl
@[simp] theorem State.setMgmt_fp (s : State) (x : Management) : (s.setMgmt x).fp = s.fp := rfl
@[simp] theorem State.setMgmt_classifier (s : State) (x : Management) : (s.setMgmt x).classifier = s.classifier := rfl
@[simp] theorem State.setMgmt_binder (s : State) (x : Management) : (s.setMgmt x).binder = s.binder := rfl
@[simp] theorem State.setMgmt_slots (s : State) (x : Management) : (s.setMgmt x).slots = s.slots := rfl
@[simp] theorem State.setMgmt_regulator (s : State) (x : Management) : (s.setMgmt x).regulator = s.regulator := rfl
@[simp] theorem State.setMgmt_doors (s : State) (x : Management) : (s.setMgmt x).doors = s.doors := rfl
@[simp] theorem State.setMgmt_screens (s : State) (x : Management) : (s.setMgmt x).screens = s.screens := rfl
@[simp] theorem State.setMgmt_supply (s : State) (x : Management) : (s.setMgmt x).supply = s.supply := rfl
@[simp] theorem State.setMgmt_composer (s : State) (x : Management) : (s.setMgmt x).composer = s.composer := rfl
@[simp] theorem State.setMgmt_overrides (s : State) (x : Management) : (s.setMgmt x).overrides = s.overrides := rfl
@[simp] theorem State.setMgmt_mgmt (s : State) (x : Management) : (s.setMgmt x).mgmt = x := rfl
@[simp] theorem State.setMgmt_pending (s : State) (x : Management) : (s.setMgmt x).pending = s.pending := rfl

/-! ### setPending -/

@[simp] theorem State.setPending_phase (s : State) (x : List Instr) : (s.setPending x).phase = s.phase := rfl
@[simp] theorem State.setPending_now (s : State) (x : List Instr) : (s.setPending x).now = s.now := rfl
@[simp] theorem State.setPending_freeIndex (s : State) (x : List Instr) : (s.setPending x).freeIndex = s.freeIndex := rfl
@[simp] theorem State.setPending_tables (s : State) (x : List Instr) : (s.setPending x).tables = s.tables := rfl
@[simp] theorem State.setPending_image (s : State) (x : List Instr) : (s.setPending x).image = s.image := rfl
@[simp] theorem State.setPending_bp (s : State) (x : List Instr) : (s.setPending x).bp = s.bp := rfl
@[simp] theorem State.setPending_fp (s : State) (x : List Instr) : (s.setPending x).fp = s.fp := rfl
@[simp] theorem State.setPending_classifier (s : State) (x : List Instr) : (s.setPending x).classifier = s.classifier := rfl
@[simp] theorem State.setPending_binder (s : State) (x : List Instr) : (s.setPending x).binder = s.binder := rfl
@[simp] theorem State.setPending_slots (s : State) (x : List Instr) : (s.setPending x).slots = s.slots := rfl
@[simp] theorem State.setPending_regulator (s : State) (x : List Instr) : (s.setPending x).regulator = s.regulator := rfl
@[simp] theorem State.setPending_doors (s : State) (x : List Instr) : (s.setPending x).doors = s.doors := rfl
@[simp] theorem State.setPending_screens (s : State) (x : List Instr) : (s.setPending x).screens = s.screens := rfl
@[simp] theorem State.setPending_supply (s : State) (x : List Instr) : (s.setPending x).supply = s.supply := rfl
@[simp] theorem State.setPending_composer (s : State) (x : List Instr) : (s.setPending x).composer = s.composer := rfl
@[simp] theorem State.setPending_overrides (s : State) (x : List Instr) : (s.setPending x).overrides = s.overrides := rfl
@[simp] theorem State.setPending_mgmt (s : State) (x : List Instr) : (s.setPending x).mgmt = s.mgmt := rfl
@[simp] theorem State.setPending_pending (s : State) (x : List Instr) : (s.setPending x).pending = x := rfl

end Sys2Proof.Machine
end

