-- ==== Sys2Proof/Laws/Frames.lean ====
section
/-! SUPPORT. The frame of each shared operation: the fields it never changes, each by computation or from the operations it is made of. -/

namespace Sys2Proof.Machine

/-! ### State.setPort -/

@[simp] theorem State.setPort_phase (s : State) (p : PortId) (x : Port) : (s.setPort p x).phase = s.phase := rfl
@[simp] theorem State.setPort_now (s : State) (p : PortId) (x : Port) : (s.setPort p x).now = s.now := rfl
@[simp] theorem State.setPort_freeIndex (s : State) (p : PortId) (x : Port) : (s.setPort p x).freeIndex = s.freeIndex := rfl
@[simp] theorem State.setPort_tables (s : State) (p : PortId) (x : Port) : (s.setPort p x).tables = s.tables := rfl
@[simp] theorem State.setPort_image (s : State) (p : PortId) (x : Port) : (s.setPort p x).image = s.image := rfl
@[simp] theorem State.setPort_classifier (s : State) (p : PortId) (x : Port) : (s.setPort p x).classifier = s.classifier := rfl
@[simp] theorem State.setPort_binder (s : State) (p : PortId) (x : Port) : (s.setPort p x).binder = s.binder := rfl
@[simp] theorem State.setPort_slots (s : State) (p : PortId) (x : Port) : (s.setPort p x).slots = s.slots := rfl
@[simp] theorem State.setPort_regulator (s : State) (p : PortId) (x : Port) : (s.setPort p x).regulator = s.regulator := rfl
@[simp] theorem State.setPort_doors (s : State) (p : PortId) (x : Port) : (s.setPort p x).doors = s.doors := rfl
@[simp] theorem State.setPort_screens (s : State) (p : PortId) (x : Port) : (s.setPort p x).screens = s.screens := rfl
@[simp] theorem State.setPort_supply (s : State) (p : PortId) (x : Port) : (s.setPort p x).supply = s.supply := rfl
@[simp] theorem State.setPort_composer (s : State) (p : PortId) (x : Port) : (s.setPort p x).composer = s.composer := rfl
@[simp] theorem State.setPort_overrides (s : State) (p : PortId) (x : Port) : (s.setPort p x).overrides = s.overrides := rfl
@[simp] theorem State.setPort_mgmt (s : State) (p : PortId) (x : Port) : (s.setPort p x).mgmt = s.mgmt := rfl
@[simp] theorem State.setPort_pending (s : State) (p : PortId) (x : Port) : (s.setPort p x).pending = s.pending := rfl

/-! ### State.setZone -/

@[simp] theorem State.setZone_phase (s : State) (z : Nat) (x : ZoneLive) : (s.setZone z x).phase = s.phase := rfl
@[simp] theorem State.setZone_now (s : State) (z : Nat) (x : ZoneLive) : (s.setZone z x).now = s.now := rfl
@[simp] theorem State.setZone_freeIndex (s : State) (z : Nat) (x : ZoneLive) : (s.setZone z x).freeIndex = s.freeIndex := rfl
@[simp] theorem State.setZone_tables (s : State) (z : Nat) (x : ZoneLive) : (s.setZone z x).tables = s.tables := rfl
@[simp] theorem State.setZone_image (s : State) (z : Nat) (x : ZoneLive) : (s.setZone z x).image = s.image := rfl
@[simp] theorem State.setZone_bp (s : State) (z : Nat) (x : ZoneLive) : (s.setZone z x).bp = s.bp := rfl
@[simp] theorem State.setZone_fp (s : State) (z : Nat) (x : ZoneLive) : (s.setZone z x).fp = s.fp := rfl
@[simp] theorem State.setZone_classifier (s : State) (z : Nat) (x : ZoneLive) : (s.setZone z x).classifier = s.classifier := rfl
@[simp] theorem State.setZone_binder (s : State) (z : Nat) (x : ZoneLive) : (s.setZone z x).binder = s.binder := rfl
@[simp] theorem State.setZone_slots (s : State) (z : Nat) (x : ZoneLive) : (s.setZone z x).slots = s.slots := rfl
@[simp] theorem State.setZone_doors (s : State) (z : Nat) (x : ZoneLive) : (s.setZone z x).doors = s.doors := rfl
@[simp] theorem State.setZone_screens (s : State) (z : Nat) (x : ZoneLive) : (s.setZone z x).screens = s.screens := rfl
@[simp] theorem State.setZone_supply (s : State) (z : Nat) (x : ZoneLive) : (s.setZone z x).supply = s.supply := rfl
@[simp] theorem State.setZone_composer (s : State) (z : Nat) (x : ZoneLive) : (s.setZone z x).composer = s.composer := rfl
@[simp] theorem State.setZone_overrides (s : State) (z : Nat) (x : ZoneLive) : (s.setZone z x).overrides = s.overrides := rfl
@[simp] theorem State.setZone_mgmt (s : State) (z : Nat) (x : ZoneLive) : (s.setZone z x).mgmt = s.mgmt := rfl
@[simp] theorem State.setZone_pending (s : State) (z : Nat) (x : ZoneLive) : (s.setZone z x).pending = s.pending := rfl

/-! ### State.setDoor -/

@[simp] theorem State.setDoor_phase (s : State) (d : Nat) (x : DoorLive) : (s.setDoor d x).phase = s.phase := rfl
@[simp] theorem State.setDoor_now (s : State) (d : Nat) (x : DoorLive) : (s.setDoor d x).now = s.now := rfl
@[simp] theorem State.setDoor_freeIndex (s : State) (d : Nat) (x : DoorLive) : (s.setDoor d x).freeIndex = s.freeIndex := rfl
@[simp] theorem State.setDoor_tables (s : State) (d : Nat) (x : DoorLive) : (s.setDoor d x).tables = s.tables := rfl
@[simp] theorem State.setDoor_image (s : State) (d : Nat) (x : DoorLive) : (s.setDoor d x).image = s.image := rfl
@[simp] theorem State.setDoor_bp (s : State) (d : Nat) (x : DoorLive) : (s.setDoor d x).bp = s.bp := rfl
@[simp] theorem State.setDoor_fp (s : State) (d : Nat) (x : DoorLive) : (s.setDoor d x).fp = s.fp := rfl
@[simp] theorem State.setDoor_classifier (s : State) (d : Nat) (x : DoorLive) : (s.setDoor d x).classifier = s.classifier := rfl
@[simp] theorem State.setDoor_binder (s : State) (d : Nat) (x : DoorLive) : (s.setDoor d x).binder = s.binder := rfl
@[simp] theorem State.setDoor_slots (s : State) (d : Nat) (x : DoorLive) : (s.setDoor d x).slots = s.slots := rfl
@[simp] theorem State.setDoor_regulator (s : State) (d : Nat) (x : DoorLive) : (s.setDoor d x).regulator = s.regulator := rfl
@[simp] theorem State.setDoor_screens (s : State) (d : Nat) (x : DoorLive) : (s.setDoor d x).screens = s.screens := rfl
@[simp] theorem State.setDoor_supply (s : State) (d : Nat) (x : DoorLive) : (s.setDoor d x).supply = s.supply := rfl
@[simp] theorem State.setDoor_composer (s : State) (d : Nat) (x : DoorLive) : (s.setDoor d x).composer = s.composer := rfl
@[simp] theorem State.setDoor_overrides (s : State) (d : Nat) (x : DoorLive) : (s.setDoor d x).overrides = s.overrides := rfl
@[simp] theorem State.setDoor_mgmt (s : State) (d : Nat) (x : DoorLive) : (s.setDoor d x).mgmt = s.mgmt := rfl
@[simp] theorem State.setDoor_pending (s : State) (d : Nat) (x : DoorLive) : (s.setDoor d x).pending = s.pending := rfl

/-! ### State.setScreen -/

@[simp] theorem State.setScreen_phase (s : State) (c : Nat) (x : ScreenLive) : (s.setScreen c x).phase = s.phase := rfl
@[simp] theorem State.setScreen_now (s : State) (c : Nat) (x : ScreenLive) : (s.setScreen c x).now = s.now := rfl
@[simp] theorem State.setScreen_freeIndex (s : State) (c : Nat) (x : ScreenLive) : (s.setScreen c x).freeIndex = s.freeIndex := rfl
@[simp] theorem State.setScreen_tables (s : State) (c : Nat) (x : ScreenLive) : (s.setScreen c x).tables = s.tables := rfl
@[simp] theorem State.setScreen_image (s : State) (c : Nat) (x : ScreenLive) : (s.setScreen c x).image = s.image := rfl
@[simp] theorem State.setScreen_bp (s : State) (c : Nat) (x : ScreenLive) : (s.setScreen c x).bp = s.bp := rfl
@[simp] theorem State.setScreen_fp (s : State) (c : Nat) (x : ScreenLive) : (s.setScreen c x).fp = s.fp := rfl
@[simp] theorem State.setScreen_classifier (s : State) (c : Nat) (x : ScreenLive) : (s.setScreen c x).classifier = s.classifier := rfl
@[simp] theorem State.setScreen_binder (s : State) (c : Nat) (x : ScreenLive) : (s.setScreen c x).binder = s.binder := rfl
@[simp] theorem State.setScreen_slots (s : State) (c : Nat) (x : ScreenLive) : (s.setScreen c x).slots = s.slots := rfl
@[simp] theorem State.setScreen_regulator (s : State) (c : Nat) (x : ScreenLive) : (s.setScreen c x).regulator = s.regulator := rfl
@[simp] theorem State.setScreen_doors (s : State) (c : Nat) (x : ScreenLive) : (s.setScreen c x).doors = s.doors := rfl
@[simp] theorem State.setScreen_supply (s : State) (c : Nat) (x : ScreenLive) : (s.setScreen c x).supply = s.supply := rfl
@[simp] theorem State.setScreen_composer (s : State) (c : Nat) (x : ScreenLive) : (s.setScreen c x).composer = s.composer := rfl
@[simp] theorem State.setScreen_overrides (s : State) (c : Nat) (x : ScreenLive) : (s.setScreen c x).overrides = s.overrides := rfl
@[simp] theorem State.setScreen_mgmt (s : State) (c : Nat) (x : ScreenLive) : (s.setScreen c x).mgmt = s.mgmt := rfl
@[simp] theorem State.setScreen_pending (s : State) (c : Nat) (x : ScreenLive) : (s.setScreen c x).pending = s.pending := rfl

/-! ### State.setSlot -/

@[simp] theorem State.setSlot_phase (s : State) (i : Nat) (x : SlotLive) : (s.setSlot i x).phase = s.phase := rfl
@[simp] theorem State.setSlot_now (s : State) (i : Nat) (x : SlotLive) : (s.setSlot i x).now = s.now := rfl
@[simp] theorem State.setSlot_freeIndex (s : State) (i : Nat) (x : SlotLive) : (s.setSlot i x).freeIndex = s.freeIndex := rfl
@[simp] theorem State.setSlot_tables (s : State) (i : Nat) (x : SlotLive) : (s.setSlot i x).tables = s.tables := rfl
@[simp] theorem State.setSlot_image (s : State) (i : Nat) (x : SlotLive) : (s.setSlot i x).image = s.image := rfl
@[simp] theorem State.setSlot_bp (s : State) (i : Nat) (x : SlotLive) : (s.setSlot i x).bp = s.bp := rfl
@[simp] theorem State.setSlot_fp (s : State) (i : Nat) (x : SlotLive) : (s.setSlot i x).fp = s.fp := rfl
@[simp] theorem State.setSlot_classifier (s : State) (i : Nat) (x : SlotLive) : (s.setSlot i x).classifier = s.classifier := rfl
@[simp] theorem State.setSlot_binder (s : State) (i : Nat) (x : SlotLive) : (s.setSlot i x).binder = s.binder := rfl
@[simp] theorem State.setSlot_regulator (s : State) (i : Nat) (x : SlotLive) : (s.setSlot i x).regulator = s.regulator := rfl
@[simp] theorem State.setSlot_doors (s : State) (i : Nat) (x : SlotLive) : (s.setSlot i x).doors = s.doors := rfl
@[simp] theorem State.setSlot_screens (s : State) (i : Nat) (x : SlotLive) : (s.setSlot i x).screens = s.screens := rfl
@[simp] theorem State.setSlot_supply (s : State) (i : Nat) (x : SlotLive) : (s.setSlot i x).supply = s.supply := rfl
@[simp] theorem State.setSlot_composer (s : State) (i : Nat) (x : SlotLive) : (s.setSlot i x).composer = s.composer := rfl
@[simp] theorem State.setSlot_overrides (s : State) (i : Nat) (x : SlotLive) : (s.setSlot i x).overrides = s.overrides := rfl
@[simp] theorem State.setSlot_mgmt (s : State) (i : Nat) (x : SlotLive) : (s.setSlot i x).mgmt = s.mgmt := rfl
@[simp] theorem State.setSlot_pending (s : State) (i : Nat) (x : SlotLive) : (s.setSlot i x).pending = s.pending := rfl

/-! ### State.setOutput -/

@[simp] theorem State.setOutput_phase (s : State) (k : Nat) (x : OutputLive) : (s.setOutput k x).phase = s.phase := rfl
@[simp] theorem State.setOutput_now (s : State) (k : Nat) (x : OutputLive) : (s.setOutput k x).now = s.now := rfl
@[simp] theorem State.setOutput_freeIndex (s : State) (k : Nat) (x : OutputLive) : (s.setOutput k x).freeIndex = s.freeIndex := rfl
@[simp] theorem State.setOutput_tables (s : State) (k : Nat) (x : OutputLive) : (s.setOutput k x).tables = s.tables := rfl
@[simp] theorem State.setOutput_image (s : State) (k : Nat) (x : OutputLive) : (s.setOutput k x).image = s.image := rfl
@[simp] theorem State.setOutput_bp (s : State) (k : Nat) (x : OutputLive) : (s.setOutput k x).bp = s.bp := rfl
@[simp] theorem State.setOutput_fp (s : State) (k : Nat) (x : OutputLive) : (s.setOutput k x).fp = s.fp := rfl
@[simp] theorem State.setOutput_classifier (s : State) (k : Nat) (x : OutputLive) : (s.setOutput k x).classifier = s.classifier := rfl
@[simp] theorem State.setOutput_binder (s : State) (k : Nat) (x : OutputLive) : (s.setOutput k x).binder = s.binder := rfl
@[simp] theorem State.setOutput_slots (s : State) (k : Nat) (x : OutputLive) : (s.setOutput k x).slots = s.slots := rfl
@[simp] theorem State.setOutput_regulator (s : State) (k : Nat) (x : OutputLive) : (s.setOutput k x).regulator = s.regulator := rfl
@[simp] theorem State.setOutput_doors (s : State) (k : Nat) (x : OutputLive) : (s.setOutput k x).doors = s.doors := rfl
@[simp] theorem State.setOutput_screens (s : State) (k : Nat) (x : OutputLive) : (s.setOutput k x).screens = s.screens := rfl
@[simp] theorem State.setOutput_supply (s : State) (k : Nat) (x : OutputLive) : (s.setOutput k x).supply = s.supply := rfl
@[simp] theorem State.setOutput_overrides (s : State) (k : Nat) (x : OutputLive) : (s.setOutput k x).overrides = s.overrides := rfl
@[simp] theorem State.setOutput_mgmt (s : State) (k : Nat) (x : OutputLive) : (s.setOutput k x).mgmt = s.mgmt := rfl
@[simp] theorem State.setOutput_pending (s : State) (k : Nat) (x : OutputLive) : (s.setOutput k x).pending = s.pending := rfl

/-! ### State.setSchedule -/

@[simp] theorem State.setSchedule_phase (s : State) (n : Nat) (x : Schedule) : (s.setSchedule n x).phase = s.phase := rfl
@[simp] theorem State.setSchedule_now (s : State) (n : Nat) (x : Schedule) : (s.setSchedule n x).now = s.now := rfl
@[simp] theorem State.setSchedule_freeIndex (s : State) (n : Nat) (x : Schedule) : (s.setSchedule n x).freeIndex = s.freeIndex := rfl
@[simp] theorem State.setSchedule_tables (s : State) (n : Nat) (x : Schedule) : (s.setSchedule n x).tables = s.tables := rfl
@[simp] theorem State.setSchedule_image (s : State) (n : Nat) (x : Schedule) : (s.setSchedule n x).image = s.image := rfl
@[simp] theorem State.setSchedule_bp (s : State) (n : Nat) (x : Schedule) : (s.setSchedule n x).bp = s.bp := rfl
@[simp] theorem State.setSchedule_fp (s : State) (n : Nat) (x : Schedule) : (s.setSchedule n x).fp = s.fp := rfl
@[simp] theorem State.setSchedule_classifier (s : State) (n : Nat) (x : Schedule) : (s.setSchedule n x).classifier = s.classifier := rfl
@[simp] theorem State.setSchedule_binder (s : State) (n : Nat) (x : Schedule) : (s.setSchedule n x).binder = s.binder := rfl
@[simp] theorem State.setSchedule_slots (s : State) (n : Nat) (x : Schedule) : (s.setSchedule n x).slots = s.slots := rfl
@[simp] theorem State.setSchedule_regulator (s : State) (n : Nat) (x : Schedule) : (s.setSchedule n x).regulator = s.regulator := rfl
@[simp] theorem State.setSchedule_doors (s : State) (n : Nat) (x : Schedule) : (s.setSchedule n x).doors = s.doors := rfl
@[simp] theorem State.setSchedule_screens (s : State) (n : Nat) (x : Schedule) : (s.setSchedule n x).screens = s.screens := rfl
@[simp] theorem State.setSchedule_supply (s : State) (n : Nat) (x : Schedule) : (s.setSchedule n x).supply = s.supply := rfl
@[simp] theorem State.setSchedule_overrides (s : State) (n : Nat) (x : Schedule) : (s.setSchedule n x).overrides = s.overrides := rfl
@[simp] theorem State.setSchedule_mgmt (s : State) (n : Nat) (x : Schedule) : (s.setSchedule n x).mgmt = s.mgmt := rfl
@[simp] theorem State.setSchedule_pending (s : State) (n : Nat) (x : Schedule) : (s.setSchedule n x).pending = s.pending := rfl

/-! ### State.advanceTo -/

@[simp] theorem State.advanceTo_phase (s : State) (d : Nat) : (s.advanceTo d).phase = s.phase := rfl
@[simp] theorem State.advanceTo_freeIndex (s : State) (d : Nat) : (s.advanceTo d).freeIndex = s.freeIndex := rfl
@[simp] theorem State.advanceTo_tables (s : State) (d : Nat) : (s.advanceTo d).tables = s.tables := rfl
@[simp] theorem State.advanceTo_image (s : State) (d : Nat) : (s.advanceTo d).image = s.image := rfl
@[simp] theorem State.advanceTo_bp (s : State) (d : Nat) : (s.advanceTo d).bp = s.bp := rfl
@[simp] theorem State.advanceTo_fp (s : State) (d : Nat) : (s.advanceTo d).fp = s.fp := rfl
@[simp] theorem State.advanceTo_classifier (s : State) (d : Nat) : (s.advanceTo d).classifier = s.classifier := rfl
@[simp] theorem State.advanceTo_binder (s : State) (d : Nat) : (s.advanceTo d).binder = s.binder := rfl
@[simp] theorem State.advanceTo_slots (s : State) (d : Nat) : (s.advanceTo d).slots = s.slots := rfl
@[simp] theorem State.advanceTo_regulator (s : State) (d : Nat) : (s.advanceTo d).regulator = s.regulator := rfl
@[simp] theorem State.advanceTo_doors (s : State) (d : Nat) : (s.advanceTo d).doors = s.doors := rfl
@[simp] theorem State.advanceTo_screens (s : State) (d : Nat) : (s.advanceTo d).screens = s.screens := rfl
@[simp] theorem State.advanceTo_supply (s : State) (d : Nat) : (s.advanceTo d).supply = s.supply := rfl
@[simp] theorem State.advanceTo_composer (s : State) (d : Nat) : (s.advanceTo d).composer = s.composer := rfl
@[simp] theorem State.advanceTo_overrides (s : State) (d : Nat) : (s.advanceTo d).overrides = s.overrides := rfl
@[simp] theorem State.advanceTo_mgmt (s : State) (d : Nat) : (s.advanceTo d).mgmt = s.mgmt := rfl
@[simp] theorem State.advanceTo_pending (s : State) (d : Nat) : (s.advanceTo d).pending = s.pending := rfl

/-! ### State.elapse -/

@[simp] theorem State.elapse_phase (s : State) (ms : Nat) : (s.elapse ms).phase = s.phase := rfl
@[simp] theorem State.elapse_freeIndex (s : State) (ms : Nat) : (s.elapse ms).freeIndex = s.freeIndex := rfl
@[simp] theorem State.elapse_tables (s : State) (ms : Nat) : (s.elapse ms).tables = s.tables := rfl
@[simp] theorem State.elapse_image (s : State) (ms : Nat) : (s.elapse ms).image = s.image := rfl
@[simp] theorem State.elapse_bp (s : State) (ms : Nat) : (s.elapse ms).bp = s.bp := rfl
@[simp] theorem State.elapse_fp (s : State) (ms : Nat) : (s.elapse ms).fp = s.fp := rfl
@[simp] theorem State.elapse_classifier (s : State) (ms : Nat) : (s.elapse ms).classifier = s.classifier := rfl
@[simp] theorem State.elapse_binder (s : State) (ms : Nat) : (s.elapse ms).binder = s.binder := rfl
@[simp] theorem State.elapse_slots (s : State) (ms : Nat) : (s.elapse ms).slots = s.slots := rfl
@[simp] theorem State.elapse_regulator (s : State) (ms : Nat) : (s.elapse ms).regulator = s.regulator := rfl
@[simp] theorem State.elapse_doors (s : State) (ms : Nat) : (s.elapse ms).doors = s.doors := rfl
@[simp] theorem State.elapse_screens (s : State) (ms : Nat) : (s.elapse ms).screens = s.screens := rfl
@[simp] theorem State.elapse_supply (s : State) (ms : Nat) : (s.elapse ms).supply = s.supply := rfl
@[simp] theorem State.elapse_composer (s : State) (ms : Nat) : (s.elapse ms).composer = s.composer := rfl
@[simp] theorem State.elapse_overrides (s : State) (ms : Nat) : (s.elapse ms).overrides = s.overrides := rfl
@[simp] theorem State.elapse_mgmt (s : State) (ms : Nat) : (s.elapse ms).mgmt = s.mgmt := rfl
@[simp] theorem State.elapse_pending (s : State) (ms : Nat) : (s.elapse ms).pending = s.pending := rfl

/-! ### raiseWhen -/

@[simp] theorem raiseWhen_phase (c : Bool) (f : Flag) (s : State) : (raiseWhen c f s).phase = s.phase := rfl
@[simp] theorem raiseWhen_now (c : Bool) (f : Flag) (s : State) : (raiseWhen c f s).now = s.now := rfl
@[simp] theorem raiseWhen_freeIndex (c : Bool) (f : Flag) (s : State) : (raiseWhen c f s).freeIndex = s.freeIndex := rfl
@[simp] theorem raiseWhen_tables (c : Bool) (f : Flag) (s : State) : (raiseWhen c f s).tables = s.tables := rfl
@[simp] theorem raiseWhen_image (c : Bool) (f : Flag) (s : State) : (raiseWhen c f s).image = s.image := rfl
@[simp] theorem raiseWhen_fp (c : Bool) (f : Flag) (s : State) : (raiseWhen c f s).fp = s.fp := rfl
@[simp] theorem raiseWhen_classifier (c : Bool) (f : Flag) (s : State) : (raiseWhen c f s).classifier = s.classifier := rfl
@[simp] theorem raiseWhen_binder (c : Bool) (f : Flag) (s : State) : (raiseWhen c f s).binder = s.binder := rfl
@[simp] theorem raiseWhen_slots (c : Bool) (f : Flag) (s : State) : (raiseWhen c f s).slots = s.slots := rfl
@[simp] theorem raiseWhen_regulator (c : Bool) (f : Flag) (s : State) : (raiseWhen c f s).regulator = s.regulator := rfl
@[simp] theorem raiseWhen_doors (c : Bool) (f : Flag) (s : State) : (raiseWhen c f s).doors = s.doors := rfl
@[simp] theorem raiseWhen_screens (c : Bool) (f : Flag) (s : State) : (raiseWhen c f s).screens = s.screens := rfl
@[simp] theorem raiseWhen_supply (c : Bool) (f : Flag) (s : State) : (raiseWhen c f s).supply = s.supply := rfl
@[simp] theorem raiseWhen_composer (c : Bool) (f : Flag) (s : State) : (raiseWhen c f s).composer = s.composer := rfl
@[simp] theorem raiseWhen_overrides (c : Bool) (f : Flag) (s : State) : (raiseWhen c f s).overrides = s.overrides := rfl
@[simp] theorem raiseWhen_pending (c : Bool) (f : Flag) (s : State) : (raiseWhen c f s).pending = s.pending := rfl

/-! ### raise -/

@[simp] theorem raise_phase (f : Flag) (s : State) : (raise f s).phase = s.phase := rfl
@[simp] theorem raise_now (f : Flag) (s : State) : (raise f s).now = s.now := rfl
@[simp] theorem raise_freeIndex (f : Flag) (s : State) : (raise f s).freeIndex = s.freeIndex := rfl
@[simp] theorem raise_tables (f : Flag) (s : State) : (raise f s).tables = s.tables := rfl
@[simp] theorem raise_image (f : Flag) (s : State) : (raise f s).image = s.image := rfl
@[simp] theorem raise_fp (f : Flag) (s : State) : (raise f s).fp = s.fp := rfl
@[simp] theorem raise_classifier (f : Flag) (s : State) : (raise f s).classifier = s.classifier := rfl
@[simp] theorem raise_binder (f : Flag) (s : State) : (raise f s).binder = s.binder := rfl
@[simp] theorem raise_slots (f : Flag) (s : State) : (raise f s).slots = s.slots := rfl
@[simp] theorem raise_regulator (f : Flag) (s : State) : (raise f s).regulator = s.regulator := rfl
@[simp] theorem raise_doors (f : Flag) (s : State) : (raise f s).doors = s.doors := rfl
@[simp] theorem raise_screens (f : Flag) (s : State) : (raise f s).screens = s.screens := rfl
@[simp] theorem raise_supply (f : Flag) (s : State) : (raise f s).supply = s.supply := rfl
@[simp] theorem raise_composer (f : Flag) (s : State) : (raise f s).composer = s.composer := rfl
@[simp] theorem raise_overrides (f : Flag) (s : State) : (raise f s).overrides = s.overrides := rfl
@[simp] theorem raise_pending (f : Flag) (s : State) : (raise f s).pending = s.pending := rfl

/-! ### reportWhen -/

@[simp] theorem reportWhen_phase (c : Bool) (s : State) : (reportWhen c s).phase = s.phase := rfl
@[simp] theorem reportWhen_now (c : Bool) (s : State) : (reportWhen c s).now = s.now := rfl
@[simp] theorem reportWhen_freeIndex (c : Bool) (s : State) : (reportWhen c s).freeIndex = s.freeIndex := rfl
@[simp] theorem reportWhen_tables (c : Bool) (s : State) : (reportWhen c s).tables = s.tables := rfl
@[simp] theorem reportWhen_image (c : Bool) (s : State) : (reportWhen c s).image = s.image := rfl
@[simp] theorem reportWhen_fp (c : Bool) (s : State) : (reportWhen c s).fp = s.fp := rfl
@[simp] theorem reportWhen_classifier (c : Bool) (s : State) : (reportWhen c s).classifier = s.classifier := rfl
@[simp] theorem reportWhen_binder (c : Bool) (s : State) : (reportWhen c s).binder = s.binder := rfl
@[simp] theorem reportWhen_slots (c : Bool) (s : State) : (reportWhen c s).slots = s.slots := rfl
@[simp] theorem reportWhen_regulator (c : Bool) (s : State) : (reportWhen c s).regulator = s.regulator := rfl
@[simp] theorem reportWhen_doors (c : Bool) (s : State) : (reportWhen c s).doors = s.doors := rfl
@[simp] theorem reportWhen_screens (c : Bool) (s : State) : (reportWhen c s).screens = s.screens := rfl
@[simp] theorem reportWhen_supply (c : Bool) (s : State) : (reportWhen c s).supply = s.supply := rfl
@[simp] theorem reportWhen_composer (c : Bool) (s : State) : (reportWhen c s).composer = s.composer := rfl
@[simp] theorem reportWhen_overrides (c : Bool) (s : State) : (reportWhen c s).overrides = s.overrides := rfl
@[simp] theorem reportWhen_pending (c : Bool) (s : State) : (reportWhen c s).pending = s.pending := rfl

/-! ### putFrame -/

@[simp] theorem putFrame_phase (p : PortId) (c : TxClass) (x : QueuedFrame) (s : State) : (putFrame p c x s).phase = s.phase := by simp [putFrame]
@[simp] theorem putFrame_now (p : PortId) (c : TxClass) (x : QueuedFrame) (s : State) : (putFrame p c x s).now = s.now := by simp [putFrame]
@[simp] theorem putFrame_freeIndex (p : PortId) (c : TxClass) (x : QueuedFrame) (s : State) : (putFrame p c x s).freeIndex = s.freeIndex := by simp [putFrame]
@[simp] theorem putFrame_tables (p : PortId) (c : TxClass) (x : QueuedFrame) (s : State) : (putFrame p c x s).tables = s.tables := by simp [putFrame]
@[simp] theorem putFrame_image (p : PortId) (c : TxClass) (x : QueuedFrame) (s : State) : (putFrame p c x s).image = s.image := by simp [putFrame]
@[simp] theorem putFrame_classifier (p : PortId) (c : TxClass) (x : QueuedFrame) (s : State) : (putFrame p c x s).classifier = s.classifier := by simp [putFrame]
@[simp] theorem putFrame_binder (p : PortId) (c : TxClass) (x : QueuedFrame) (s : State) : (putFrame p c x s).binder = s.binder := by simp [putFrame]
@[simp] theorem putFrame_slots (p : PortId) (c : TxClass) (x : QueuedFrame) (s : State) : (putFrame p c x s).slots = s.slots := by simp [putFrame]
@[simp] theorem putFrame_regulator (p : PortId) (c : TxClass) (x : QueuedFrame) (s : State) : (putFrame p c x s).regulator = s.regulator := by simp [putFrame]
@[simp] theorem putFrame_doors (p : PortId) (c : TxClass) (x : QueuedFrame) (s : State) : (putFrame p c x s).doors = s.doors := by simp [putFrame]
@[simp] theorem putFrame_screens (p : PortId) (c : TxClass) (x : QueuedFrame) (s : State) : (putFrame p c x s).screens = s.screens := by simp [putFrame]
@[simp] theorem putFrame_supply (p : PortId) (c : TxClass) (x : QueuedFrame) (s : State) : (putFrame p c x s).supply = s.supply := by simp [putFrame]
@[simp] theorem putFrame_composer (p : PortId) (c : TxClass) (x : QueuedFrame) (s : State) : (putFrame p c x s).composer = s.composer := by simp [putFrame]
@[simp] theorem putFrame_overrides (p : PortId) (c : TxClass) (x : QueuedFrame) (s : State) : (putFrame p c x s).overrides = s.overrides := by simp [putFrame]
@[simp] theorem putFrame_pending (p : PortId) (c : TxClass) (x : QueuedFrame) (s : State) : (putFrame p c x s).pending = s.pending := by simp [putFrame]

/-! ### countLengthShort -/

@[simp] theorem countLengthShort_phase (p : PortId) (s : State) : (countLengthShort p s).phase = s.phase := by simp [countLengthShort]
@[simp] theorem countLengthShort_now (p : PortId) (s : State) : (countLengthShort p s).now = s.now := by simp [countLengthShort]
@[simp] theorem countLengthShort_freeIndex (p : PortId) (s : State) : (countLengthShort p s).freeIndex = s.freeIndex := by simp [countLengthShort]
@[simp] theorem countLengthShort_tables (p : PortId) (s : State) : (countLengthShort p s).tables = s.tables := by simp [countLengthShort]
@[simp] theorem countLengthShort_image (p : PortId) (s : State) : (countLengthShort p s).image = s.image := by simp [countLengthShort]
@[simp] theorem countLengthShort_classifier (p : PortId) (s : State) : (countLengthShort p s).classifier = s.classifier := by simp [countLengthShort]
@[simp] theorem countLengthShort_binder (p : PortId) (s : State) : (countLengthShort p s).binder = s.binder := by simp [countLengthShort]
@[simp] theorem countLengthShort_slots (p : PortId) (s : State) : (countLengthShort p s).slots = s.slots := by simp [countLengthShort]
@[simp] theorem countLengthShort_regulator (p : PortId) (s : State) : (countLengthShort p s).regulator = s.regulator := by simp [countLengthShort]
@[simp] theorem countLengthShort_doors (p : PortId) (s : State) : (countLengthShort p s).doors = s.doors := by simp [countLengthShort]
@[simp] theorem countLengthShort_screens (p : PortId) (s : State) : (countLengthShort p s).screens = s.screens := by simp [countLengthShort]
@[simp] theorem countLengthShort_supply (p : PortId) (s : State) : (countLengthShort p s).supply = s.supply := by simp [countLengthShort]
@[simp] theorem countLengthShort_composer (p : PortId) (s : State) : (countLengthShort p s).composer = s.composer := by simp [countLengthShort]
@[simp] theorem countLengthShort_overrides (p : PortId) (s : State) : (countLengthShort p s).overrides = s.overrides := by simp [countLengthShort]
@[simp] theorem countLengthShort_pending (p : PortId) (s : State) : (countLengthShort p s).pending = s.pending := by simp [countLengthShort]

/-! ### capture -/

@[simp] theorem capture_phase (c : Captured) (s : State) : (capture c s).phase = s.phase := rfl
@[simp] theorem capture_now (c : Captured) (s : State) : (capture c s).now = s.now := rfl
@[simp] theorem capture_freeIndex (c : Captured) (s : State) : (capture c s).freeIndex = s.freeIndex := rfl
@[simp] theorem capture_tables (c : Captured) (s : State) : (capture c s).tables = s.tables := rfl
@[simp] theorem capture_image (c : Captured) (s : State) : (capture c s).image = s.image := rfl
@[simp] theorem capture_bp (c : Captured) (s : State) : (capture c s).bp = s.bp := rfl
@[simp] theorem capture_fp (c : Captured) (s : State) : (capture c s).fp = s.fp := rfl
@[simp] theorem capture_classifier (c : Captured) (s : State) : (capture c s).classifier = s.classifier := rfl
@[simp] theorem capture_binder (c : Captured) (s : State) : (capture c s).binder = s.binder := rfl
@[simp] theorem capture_slots (c : Captured) (s : State) : (capture c s).slots = s.slots := rfl
@[simp] theorem capture_regulator (c : Captured) (s : State) : (capture c s).regulator = s.regulator := rfl
@[simp] theorem capture_doors (c : Captured) (s : State) : (capture c s).doors = s.doors := rfl
@[simp] theorem capture_screens (c : Captured) (s : State) : (capture c s).screens = s.screens := rfl
@[simp] theorem capture_supply (c : Captured) (s : State) : (capture c s).supply = s.supply := rfl
@[simp] theorem capture_composer (c : Captured) (s : State) : (capture c s).composer = s.composer := rfl
@[simp] theorem capture_overrides (c : Captured) (s : State) : (capture c s).overrides = s.overrides := rfl
@[simp] theorem capture_pending (c : Captured) (s : State) : (capture c s).pending = s.pending := rfl

/-! ### handOff -/

@[simp] theorem handOff_phase (p : PortId) (f : Frame) (e : FrameEntry) (s : State) : (handOff p f e s).phase = s.phase := rfl
@[simp] theorem handOff_now (p : PortId) (f : Frame) (e : FrameEntry) (s : State) : (handOff p f e s).now = s.now := rfl
@[simp] theorem handOff_freeIndex (p : PortId) (f : Frame) (e : FrameEntry) (s : State) : (handOff p f e s).freeIndex = s.freeIndex := rfl
@[simp] theorem handOff_tables (p : PortId) (f : Frame) (e : FrameEntry) (s : State) : (handOff p f e s).tables = s.tables := rfl
@[simp] theorem handOff_image (p : PortId) (f : Frame) (e : FrameEntry) (s : State) : (handOff p f e s).image = s.image := rfl
@[simp] theorem handOff_bp (p : PortId) (f : Frame) (e : FrameEntry) (s : State) : (handOff p f e s).bp = s.bp := rfl
@[simp] theorem handOff_fp (p : PortId) (f : Frame) (e : FrameEntry) (s : State) : (handOff p f e s).fp = s.fp := rfl
@[simp] theorem handOff_classifier (p : PortId) (f : Frame) (e : FrameEntry) (s : State) : (handOff p f e s).classifier = s.classifier := rfl
@[simp] theorem handOff_slots (p : PortId) (f : Frame) (e : FrameEntry) (s : State) : (handOff p f e s).slots = s.slots := rfl
@[simp] theorem handOff_regulator (p : PortId) (f : Frame) (e : FrameEntry) (s : State) : (handOff p f e s).regulator = s.regulator := rfl
@[simp] theorem handOff_doors (p : PortId) (f : Frame) (e : FrameEntry) (s : State) : (handOff p f e s).doors = s.doors := rfl
@[simp] theorem handOff_screens (p : PortId) (f : Frame) (e : FrameEntry) (s : State) : (handOff p f e s).screens = s.screens := rfl
@[simp] theorem handOff_supply (p : PortId) (f : Frame) (e : FrameEntry) (s : State) : (handOff p f e s).supply = s.supply := rfl
@[simp] theorem handOff_composer (p : PortId) (f : Frame) (e : FrameEntry) (s : State) : (handOff p f e s).composer = s.composer := rfl
@[simp] theorem handOff_mgmt (p : PortId) (f : Frame) (e : FrameEntry) (s : State) : (handOff p f e s).mgmt = s.mgmt := rfl
@[simp] theorem handOff_pending (p : PortId) (f : Frame) (e : FrameEntry) (s : State) : (handOff p f e s).pending = s.pending := rfl

/-! ### takeFrame -/

@[simp] theorem takeFrame_phase (p : PortId) (r : List Frame) (s : State) : (takeFrame p r s).phase = s.phase := by simp [takeFrame]
@[simp] theorem takeFrame_now (p : PortId) (r : List Frame) (s : State) : (takeFrame p r s).now = s.now := by simp [takeFrame]
@[simp] theorem takeFrame_freeIndex (p : PortId) (r : List Frame) (s : State) : (takeFrame p r s).freeIndex = s.freeIndex := by simp [takeFrame]
@[simp] theorem takeFrame_tables (p : PortId) (r : List Frame) (s : State) : (takeFrame p r s).tables = s.tables := by simp [takeFrame]
@[simp] theorem takeFrame_image (p : PortId) (r : List Frame) (s : State) : (takeFrame p r s).image = s.image := by simp [takeFrame]
@[simp] theorem takeFrame_binder (p : PortId) (r : List Frame) (s : State) : (takeFrame p r s).binder = s.binder := by simp [takeFrame]
@[simp] theorem takeFrame_slots (p : PortId) (r : List Frame) (s : State) : (takeFrame p r s).slots = s.slots := by simp [takeFrame]
@[simp] theorem takeFrame_regulator (p : PortId) (r : List Frame) (s : State) : (takeFrame p r s).regulator = s.regulator := by simp [takeFrame]
@[simp] theorem takeFrame_doors (p : PortId) (r : List Frame) (s : State) : (takeFrame p r s).doors = s.doors := by simp [takeFrame]
@[simp] theorem takeFrame_screens (p : PortId) (r : List Frame) (s : State) : (takeFrame p r s).screens = s.screens := by simp [takeFrame]
@[simp] theorem takeFrame_supply (p : PortId) (r : List Frame) (s : State) : (takeFrame p r s).supply = s.supply := by simp [takeFrame]
@[simp] theorem takeFrame_composer (p : PortId) (r : List Frame) (s : State) : (takeFrame p r s).composer = s.composer := by simp [takeFrame]
@[simp] theorem takeFrame_overrides (p : PortId) (r : List Frame) (s : State) : (takeFrame p r s).overrides = s.overrides := by simp [takeFrame]
@[simp] theorem takeFrame_mgmt (p : PortId) (r : List Frame) (s : State) : (takeFrame p r s).mgmt = s.mgmt := by simp [takeFrame]
@[simp] theorem takeFrame_pending (p : PortId) (r : List Frame) (s : State) : (takeFrame p r s).pending = s.pending := by simp [takeFrame]

/-! ### sendNotices -/

@[simp] theorem sendNotices_phase (i : Nat) (v : Int) (c : Bool) (s : State) : (sendNotices i v c s).phase = s.phase := rfl
@[simp] theorem sendNotices_now (i : Nat) (v : Int) (c : Bool) (s : State) : (sendNotices i v c s).now = s.now := rfl
@[simp] theorem sendNotices_tables (i : Nat) (v : Int) (c : Bool) (s : State) : (sendNotices i v c s).tables = s.tables := rfl
@[simp] theorem sendNotices_image (i : Nat) (v : Int) (c : Bool) (s : State) : (sendNotices i v c s).image = s.image := rfl
@[simp] theorem sendNotices_bp (i : Nat) (v : Int) (c : Bool) (s : State) : (sendNotices i v c s).bp = s.bp := rfl
@[simp] theorem sendNotices_fp (i : Nat) (v : Int) (c : Bool) (s : State) : (sendNotices i v c s).fp = s.fp := rfl
@[simp] theorem sendNotices_classifier (i : Nat) (v : Int) (c : Bool) (s : State) : (sendNotices i v c s).classifier = s.classifier := rfl
@[simp] theorem sendNotices_binder (i : Nat) (v : Int) (c : Bool) (s : State) : (sendNotices i v c s).binder = s.binder := rfl
@[simp] theorem sendNotices_slots (i : Nat) (v : Int) (c : Bool) (s : State) : (sendNotices i v c s).slots = s.slots := rfl
@[simp] theorem sendNotices_screens (i : Nat) (v : Int) (c : Bool) (s : State) : (sendNotices i v c s).screens = s.screens := rfl
@[simp] theorem sendNotices_composer (i : Nat) (v : Int) (c : Bool) (s : State) : (sendNotices i v c s).composer = s.composer := rfl
@[simp] theorem sendNotices_overrides (i : Nat) (v : Int) (c : Bool) (s : State) : (sendNotices i v c s).overrides = s.overrides := rfl
@[simp] theorem sendNotices_mgmt (i : Nat) (v : Int) (c : Bool) (s : State) : (sendNotices i v c s).mgmt = s.mgmt := rfl
@[simp] theorem sendNotices_pending (i : Nat) (v : Int) (c : Bool) (s : State) : (sendNotices i v c s).pending = s.pending := rfl

/-! ### leaveNotice -/

@[simp] theorem leaveNotice_phase (c : Bool) (i : Nat) (s : State) : (leaveNotice c i s).phase = s.phase := rfl
@[simp] theorem leaveNotice_now (c : Bool) (i : Nat) (s : State) : (leaveNotice c i s).now = s.now := rfl
@[simp] theorem leaveNotice_freeIndex (c : Bool) (i : Nat) (s : State) : (leaveNotice c i s).freeIndex = s.freeIndex := rfl
@[simp] theorem leaveNotice_tables (c : Bool) (i : Nat) (s : State) : (leaveNotice c i s).tables = s.tables := rfl
@[simp] theorem leaveNotice_image (c : Bool) (i : Nat) (s : State) : (leaveNotice c i s).image = s.image := rfl
@[simp] theorem leaveNotice_bp (c : Bool) (i : Nat) (s : State) : (leaveNotice c i s).bp = s.bp := rfl
@[simp] theorem leaveNotice_fp (c : Bool) (i : Nat) (s : State) : (leaveNotice c i s).fp = s.fp := rfl
@[simp] theorem leaveNotice_classifier (c : Bool) (i : Nat) (s : State) : (leaveNotice c i s).classifier = s.classifier := rfl
@[simp] theorem leaveNotice_binder (c : Bool) (i : Nat) (s : State) : (leaveNotice c i s).binder = s.binder := rfl
@[simp] theorem leaveNotice_slots (c : Bool) (i : Nat) (s : State) : (leaveNotice c i s).slots = s.slots := rfl
@[simp] theorem leaveNotice_regulator (c : Bool) (i : Nat) (s : State) : (leaveNotice c i s).regulator = s.regulator := rfl
@[simp] theorem leaveNotice_doors (c : Bool) (i : Nat) (s : State) : (leaveNotice c i s).doors = s.doors := rfl
@[simp] theorem leaveNotice_screens (c : Bool) (i : Nat) (s : State) : (leaveNotice c i s).screens = s.screens := rfl
@[simp] theorem leaveNotice_composer (c : Bool) (i : Nat) (s : State) : (leaveNotice c i s).composer = s.composer := rfl
@[simp] theorem leaveNotice_overrides (c : Bool) (i : Nat) (s : State) : (leaveNotice c i s).overrides = s.overrides := rfl
@[simp] theorem leaveNotice_mgmt (c : Bool) (i : Nat) (s : State) : (leaveNotice c i s).mgmt = s.mgmt := rfl
@[simp] theorem leaveNotice_pending (c : Bool) (i : Nat) (s : State) : (leaveNotice c i s).pending = s.pending := rfl

/-! ### sendClimate -/

@[simp] theorem sendClimate_phase (b : Bool) (c : Climate) (s : State) : (sendClimate b c s).phase = s.phase := rfl
@[simp] theorem sendClimate_now (b : Bool) (c : Climate) (s : State) : (sendClimate b c s).now = s.now := rfl
@[simp] theorem sendClimate_freeIndex (b : Bool) (c : Climate) (s : State) : (sendClimate b c s).freeIndex = s.freeIndex := rfl
@[simp] theorem sendClimate_tables (b : Bool) (c : Climate) (s : State) : (sendClimate b c s).tables = s.tables := rfl
@[simp] theorem sendClimate_image (b : Bool) (c : Climate) (s : State) : (sendClimate b c s).image = s.image := rfl
@[simp] theorem sendClimate_bp (b : Bool) (c : Climate) (s : State) : (sendClimate b c s).bp = s.bp := rfl
@[simp] theorem sendClimate_fp (b : Bool) (c : Climate) (s : State) : (sendClimate b c s).fp = s.fp := rfl
@[simp] theorem sendClimate_classifier (b : Bool) (c : Climate) (s : State) : (sendClimate b c s).classifier = s.classifier := rfl
@[simp] theorem sendClimate_binder (b : Bool) (c : Climate) (s : State) : (sendClimate b c s).binder = s.binder := rfl
@[simp] theorem sendClimate_slots (b : Bool) (c : Climate) (s : State) : (sendClimate b c s).slots = s.slots := rfl
@[simp] theorem sendClimate_regulator (b : Bool) (c : Climate) (s : State) : (sendClimate b c s).regulator = s.regulator := rfl
@[simp] theorem sendClimate_supply (b : Bool) (c : Climate) (s : State) : (sendClimate b c s).supply = s.supply := rfl
@[simp] theorem sendClimate_mgmt (b : Bool) (c : Climate) (s : State) : (sendClimate b c s).mgmt = s.mgmt := rfl
@[simp] theorem sendClimate_pending (b : Bool) (c : Climate) (s : State) : (sendClimate b c s).pending = s.pending := rfl

/-! ### mapOutputs -/

@[simp] theorem mapOutputs_phase (f : Nat → OutputLive → OutputLive) (s : State) : (mapOutputs f s).phase = s.phase := rfl
@[simp] theorem mapOutputs_now (f : Nat → OutputLive → OutputLive) (s : State) : (mapOutputs f s).now = s.now := rfl
@[simp] theorem mapOutputs_freeIndex (f : Nat → OutputLive → OutputLive) (s : State) : (mapOutputs f s).freeIndex = s.freeIndex := rfl
@[simp] theorem mapOutputs_tables (f : Nat → OutputLive → OutputLive) (s : State) : (mapOutputs f s).tables = s.tables := rfl
@[simp] theorem mapOutputs_image (f : Nat → OutputLive → OutputLive) (s : State) : (mapOutputs f s).image = s.image := rfl
@[simp] theorem mapOutputs_bp (f : Nat → OutputLive → OutputLive) (s : State) : (mapOutputs f s).bp = s.bp := rfl
@[simp] theorem mapOutputs_fp (f : Nat → OutputLive → OutputLive) (s : State) : (mapOutputs f s).fp = s.fp := rfl
@[simp] theorem mapOutputs_classifier (f : Nat → OutputLive → OutputLive) (s : State) : (mapOutputs f s).classifier = s.classifier := rfl
@[simp] theorem mapOutputs_binder (f : Nat → OutputLive → OutputLive) (s : State) : (mapOutputs f s).binder = s.binder := rfl
@[simp] theorem mapOutputs_slots (f : Nat → OutputLive → OutputLive) (s : State) : (mapOutputs f s).slots = s.slots := rfl
@[simp] theorem mapOutputs_regulator (f : Nat → OutputLive → OutputLive) (s : State) : (mapOutputs f s).regulator = s.regulator := rfl
@[simp] theorem mapOutputs_doors (f : Nat → OutputLive → OutputLive) (s : State) : (mapOutputs f s).doors = s.doors := rfl
@[simp] theorem mapOutputs_screens (f : Nat → OutputLive → OutputLive) (s : State) : (mapOutputs f s).screens = s.screens := rfl
@[simp] theorem mapOutputs_supply (f : Nat → OutputLive → OutputLive) (s : State) : (mapOutputs f s).supply = s.supply := rfl
@[simp] theorem mapOutputs_overrides (f : Nat → OutputLive → OutputLive) (s : State) : (mapOutputs f s).overrides = s.overrides := rfl
@[simp] theorem mapOutputs_mgmt (f : Nat → OutputLive → OutputLive) (s : State) : (mapOutputs f s).mgmt = s.mgmt := rfl
@[simp] theorem mapOutputs_pending (f : Nat → OutputLive → OutputLive) (s : State) : (mapOutputs f s).pending = s.pending := rfl

/-! ### allocate -/

@[simp] theorem allocate_phase (r : Bool) (s : State) : (allocate r s).phase = s.phase := by simp [allocate]
@[simp] theorem allocate_now (r : Bool) (s : State) : (allocate r s).now = s.now := by simp [allocate]
@[simp] theorem allocate_freeIndex (r : Bool) (s : State) : (allocate r s).freeIndex = s.freeIndex := by simp [allocate]
@[simp] theorem allocate_tables (r : Bool) (s : State) : (allocate r s).tables = s.tables := by simp [allocate]
@[simp] theorem allocate_image (r : Bool) (s : State) : (allocate r s).image = s.image := by simp [allocate]
@[simp] theorem allocate_fp (r : Bool) (s : State) : (allocate r s).fp = s.fp := by simp [allocate]
@[simp] theorem allocate_classifier (r : Bool) (s : State) : (allocate r s).classifier = s.classifier := by simp [allocate]
@[simp] theorem allocate_binder (r : Bool) (s : State) : (allocate r s).binder = s.binder := by simp [allocate]
@[simp] theorem allocate_slots (r : Bool) (s : State) : (allocate r s).slots = s.slots := by simp [allocate]
@[simp] theorem allocate_regulator (r : Bool) (s : State) : (allocate r s).regulator = s.regulator := by simp [allocate]
@[simp] theorem allocate_doors (r : Bool) (s : State) : (allocate r s).doors = s.doors := by simp [allocate]
@[simp] theorem allocate_screens (r : Bool) (s : State) : (allocate r s).screens = s.screens := by simp [allocate]
@[simp] theorem allocate_overrides (r : Bool) (s : State) : (allocate r s).overrides = s.overrides := by simp [allocate]
@[simp] theorem allocate_pending (r : Bool) (s : State) : (allocate r s).pending = s.pending := by simp [allocate]

/-! ### setEntries -/

@[simp] theorem setEntries_phase (e : List StackEntry) (s : State) : (setEntries e s).phase = s.phase := rfl
@[simp] theorem setEntries_now (e : List StackEntry) (s : State) : (setEntries e s).now = s.now := rfl
@[simp] theorem setEntries_freeIndex (e : List StackEntry) (s : State) : (setEntries e s).freeIndex = s.freeIndex := rfl
@[simp] theorem setEntries_tables (e : List StackEntry) (s : State) : (setEntries e s).tables = s.tables := rfl
@[simp] theorem setEntries_image (e : List StackEntry) (s : State) : (setEntries e s).image = s.image := rfl
@[simp] theorem setEntries_bp (e : List StackEntry) (s : State) : (setEntries e s).bp = s.bp := rfl
@[simp] theorem setEntries_fp (e : List StackEntry) (s : State) : (setEntries e s).fp = s.fp := rfl
@[simp] theorem setEntries_classifier (e : List StackEntry) (s : State) : (setEntries e s).classifier = s.classifier := rfl
@[simp] theorem setEntries_binder (e : List StackEntry) (s : State) : (setEntries e s).binder = s.binder := rfl
@[simp] theorem setEntries_slots (e : List StackEntry) (s : State) : (setEntries e s).slots = s.slots := rfl
@[simp] theorem setEntries_regulator (e : List StackEntry) (s : State) : (setEntries e s).regulator = s.regulator := rfl
@[simp] theorem setEntries_doors (e : List StackEntry) (s : State) : (setEntries e s).doors = s.doors := rfl
@[simp] theorem setEntries_screens (e : List StackEntry) (s : State) : (setEntries e s).screens = s.screens := rfl
@[simp] theorem setEntries_supply (e : List StackEntry) (s : State) : (setEntries e s).supply = s.supply := rfl
@[simp] theorem setEntries_composer (e : List StackEntry) (s : State) : (setEntries e s).composer = s.composer := rfl
@[simp] theorem setEntries_mgmt (e : List StackEntry) (s : State) : (setEntries e s).mgmt = s.mgmt := rfl
@[simp] theorem setEntries_pending (e : List StackEntry) (s : State) : (setEntries e s).pending = s.pending := rfl

/-! ### dropCaptured -/

@[simp] theorem dropCaptured_phase (r : List Captured) (s : State) : (dropCaptured r s).phase = s.phase := rfl
@[simp] theorem dropCaptured_now (r : List Captured) (s : State) : (dropCaptured r s).now = s.now := rfl
@[simp] theorem dropCaptured_freeIndex (r : List Captured) (s : State) : (dropCaptured r s).freeIndex = s.freeIndex := rfl
@[simp] theorem dropCaptured_tables (r : List Captured) (s : State) : (dropCaptured r s).tables = s.tables := rfl
@[simp] theorem dropCaptured_image (r : List Captured) (s : State) : (dropCaptured r s).image = s.image := rfl
@[simp] theorem dropCaptured_bp (r : List Captured) (s : State) : (dropCaptured r s).bp = s.bp := rfl
@[simp] theorem dropCaptured_fp (r : List Captured) (s : State) : (dropCaptured r s).fp = s.fp := rfl
@[simp] theorem dropCaptured_classifier (r : List Captured) (s : State) : (dropCaptured r s).classifier = s.classifier := rfl
@[simp] theorem dropCaptured_binder (r : List Captured) (s : State) : (dropCaptured r s).binder = s.binder := rfl
@[simp] theorem dropCaptured_slots (r : List Captured) (s : State) : (dropCaptured r s).slots = s.slots := rfl
@[simp] theorem dropCaptured_regulator (r : List Captured) (s : State) : (dropCaptured r s).regulator = s.regulator := rfl
@[simp] theorem dropCaptured_doors (r : List Captured) (s : State) : (dropCaptured r s).doors = s.doors := rfl
@[simp] theorem dropCaptured_screens (r : List Captured) (s : State) : (dropCaptured r s).screens = s.screens := rfl
@[simp] theorem dropCaptured_supply (r : List Captured) (s : State) : (dropCaptured r s).supply = s.supply := rfl
@[simp] theorem dropCaptured_composer (r : List Captured) (s : State) : (dropCaptured r s).composer = s.composer := rfl
@[simp] theorem dropCaptured_overrides (r : List Captured) (s : State) : (dropCaptured r s).overrides = s.overrides := rfl
@[simp] theorem dropCaptured_pending (r : List Captured) (s : State) : (dropCaptured r s).pending = s.pending := rfl

/-! ### replyWith -/

@[simp] theorem replyWith_phase (c : Nat) (st : Status) (d : List Byte) (s : State) : (replyWith c st d s).phase = s.phase := by simp [replyWith]
@[simp] theorem replyWith_now (c : Nat) (st : Status) (d : List Byte) (s : State) : (replyWith c st d s).now = s.now := by simp [replyWith]
@[simp] theorem replyWith_freeIndex (c : Nat) (st : Status) (d : List Byte) (s : State) : (replyWith c st d s).freeIndex = s.freeIndex := by simp [replyWith]
@[simp] theorem replyWith_tables (c : Nat) (st : Status) (d : List Byte) (s : State) : (replyWith c st d s).tables = s.tables := by simp [replyWith]
@[simp] theorem replyWith_image (c : Nat) (st : Status) (d : List Byte) (s : State) : (replyWith c st d s).image = s.image := by simp [replyWith]
@[simp] theorem replyWith_fp (c : Nat) (st : Status) (d : List Byte) (s : State) : (replyWith c st d s).fp = s.fp := by simp [replyWith, putFrame, State.setPort]
@[simp] theorem replyWith_classifier (c : Nat) (st : Status) (d : List Byte) (s : State) : (replyWith c st d s).classifier = s.classifier := by simp [replyWith]
@[simp] theorem replyWith_binder (c : Nat) (st : Status) (d : List Byte) (s : State) : (replyWith c st d s).binder = s.binder := by simp [replyWith]
@[simp] theorem replyWith_slots (c : Nat) (st : Status) (d : List Byte) (s : State) : (replyWith c st d s).slots = s.slots := by simp [replyWith]
@[simp] theorem replyWith_regulator (c : Nat) (st : Status) (d : List Byte) (s : State) : (replyWith c st d s).regulator = s.regulator := by simp [replyWith]
@[simp] theorem replyWith_doors (c : Nat) (st : Status) (d : List Byte) (s : State) : (replyWith c st d s).doors = s.doors := by simp [replyWith]
@[simp] theorem replyWith_screens (c : Nat) (st : Status) (d : List Byte) (s : State) : (replyWith c st d s).screens = s.screens := by simp [replyWith]
@[simp] theorem replyWith_supply (c : Nat) (st : Status) (d : List Byte) (s : State) : (replyWith c st d s).supply = s.supply := by simp [replyWith]
@[simp] theorem replyWith_composer (c : Nat) (st : Status) (d : List Byte) (s : State) : (replyWith c st d s).composer = s.composer := by simp [replyWith]
@[simp] theorem replyWith_overrides (c : Nat) (st : Status) (d : List Byte) (s : State) : (replyWith c st d s).overrides = s.overrides := by simp [replyWith]
@[simp] theorem replyWith_pending (c : Nat) (st : Status) (d : List Byte) (s : State) : (replyWith c st d s).pending = s.pending := by simp [replyWith]

/-! ### reply -/

@[simp] theorem reply_phase (c : Nat) (st : Status) (s : State) : (reply c st s).phase = s.phase := by simp [reply]
@[simp] theorem reply_now (c : Nat) (st : Status) (s : State) : (reply c st s).now = s.now := by simp [reply]
@[simp] theorem reply_freeIndex (c : Nat) (st : Status) (s : State) : (reply c st s).freeIndex = s.freeIndex := by simp [reply]
@[simp] theorem reply_tables (c : Nat) (st : Status) (s : State) : (reply c st s).tables = s.tables := by simp [reply]
@[simp] theorem reply_image (c : Nat) (st : Status) (s : State) : (reply c st s).image = s.image := by simp [reply]
@[simp] theorem reply_fp (c : Nat) (st : Status) (s : State) : (reply c st s).fp = s.fp := by simp [reply]
@[simp] theorem reply_classifier (c : Nat) (st : Status) (s : State) : (reply c st s).classifier = s.classifier := by simp [reply]
@[simp] theorem reply_binder (c : Nat) (st : Status) (s : State) : (reply c st s).binder = s.binder := by simp [reply]
@[simp] theorem reply_slots (c : Nat) (st : Status) (s : State) : (reply c st s).slots = s.slots := by simp [reply]
@[simp] theorem reply_regulator (c : Nat) (st : Status) (s : State) : (reply c st s).regulator = s.regulator := by simp [reply]
@[simp] theorem reply_doors (c : Nat) (st : Status) (s : State) : (reply c st s).doors = s.doors := by simp [reply]
@[simp] theorem reply_screens (c : Nat) (st : Status) (s : State) : (reply c st s).screens = s.screens := by simp [reply]
@[simp] theorem reply_supply (c : Nat) (st : Status) (s : State) : (reply c st s).supply = s.supply := by simp [reply]
@[simp] theorem reply_composer (c : Nat) (st : Status) (s : State) : (reply c st s).composer = s.composer := by simp [reply]
@[simp] theorem reply_overrides (c : Nat) (st : Status) (s : State) : (reply c st s).overrides = s.overrides := by simp [reply]
@[simp] theorem reply_pending (c : Nat) (st : Status) (s : State) : (reply c st s).pending = s.pending := by simp [reply]

end Sys2Proof.Machine
end

