-- ==== Sys2Proof/Laws/Ops.lean ====
section
/-! SUPPORT. What each shared operation can do, said once: the outcomes of a put, of setting a flag, of an expiry and of
taking a request or a desk hand-off; and reading back a live record that was replaced. -/

namespace Sys2Proof.Machine

/-! ### Reading back a replaced record -/

theorem getD_set_eq {α : Type} (l : List α) (i : Nat) (x d : α) (h : i < l.length) : (l.set i x).getD i d = x := by
  simp [List.getD, h]

theorem getD_set_ne {α : Type} (l : List α) (i j : Nat) (x d : α) (h : j ≠ i) : (l.set i x).getD j d = l.getD j d := by
  simp [List.getD, Ne.symm h]

theorem State.zone_setZone (s : State) (z : Nat) (x : ZoneLive) (h : z < s.regulator.zones.length) :
    (s.setZone z x).zone z = x := getD_set_eq _ _ _ _ h

theorem State.zone_setZone_ne (s : State) (z k : Nat) (x : ZoneLive) (h : k ≠ z) :
    (s.setZone z x).zone k = s.zone k := getD_set_ne _ _ _ _ _ h

theorem State.door_setDoor (s : State) (d : Nat) (x : DoorLive) (h : d < s.doors.doors.length) :
    (s.setDoor d x).door d = x := getD_set_eq _ _ _ _ h

theorem State.door_setDoor_ne (s : State) (d k : Nat) (x : DoorLive) (h : k ≠ d) :
    (s.setDoor d x).door k = s.door k := getD_set_ne _ _ _ _ _ h

theorem State.screen_setScreen (s : State) (c : Nat) (x : ScreenLive) (h : c < s.screens.channels.length) :
    (s.setScreen c x).screen c = x := getD_set_eq _ _ _ _ h

theorem State.screen_setScreen_ne (s : State) (c k : Nat) (x : ScreenLive) (h : k ≠ c) :
    (s.setScreen c x).screen k = s.screen k := getD_set_ne _ _ _ _ _ h

theorem State.slot_setSlot (s : State) (i : Nat) (x : SlotLive) (h : i < s.slots.length) :
    (s.setSlot i x).slot i = x := getD_set_eq _ _ _ _ h

theorem State.slot_setSlot_ne (s : State) (i k : Nat) (x : SlotLive) (h : k ≠ i) :
    (s.setSlot i x).slot k = s.slot k := getD_set_ne _ _ _ _ _ h

theorem State.output_setOutput (s : State) (k : Nat) (x : OutputLive) (h : k < s.composer.outputs.length) :
    (s.setOutput k x).output k = x := getD_set_eq _ _ _ _ h

theorem State.output_setOutput_ne (s : State) (k j : Nat) (x : OutputLive) (h : j ≠ k) :
    (s.setOutput k x).output j = s.output j := getD_set_ne _ _ _ _ _ h

theorem State.schedule_setSchedule (s : State) (n : Nat) (x : Schedule) (h : n < s.composer.schedules.length) :
    (s.setSchedule n x).schedule n = x := getD_set_eq _ _ _ _ h

theorem State.schedule_setSchedule_ne (s : State) (n j : Nat) (x : Schedule) (h : j ≠ n) :
    (s.setSchedule n x).schedule j = s.schedule j := getD_set_ne _ _ _ _ _ h

@[simp] theorem State.port_setPort (s : State) (p : PortId) (x : Port) : (s.setPort p x).port p = x := by
  cases p <;> rfl

@[simp] theorem State.port_setPort_other (s : State) (p : PortId) (x : Port) :
    (s.setPort p x).port p.other = s.port p.other := by
  cases p <;> rfl

/-! ### Transmit queues -/

/-- A put appends, replaces in place, or counts a drop, as its outcome says. -/
theorem Port.put_cases (p : Port) (c : TxClass) (x : QueuedFrame) :
    (p.outcome c x.origin = .accepted ∧ p.err ≠ .busOff ∧ (p.queue c).length < c.capacity ∧
      p.put c x = p.setQueue c (p.queue c ++ [x])) ∨
    (p.outcome c x.origin = .coalesced ∧ p.err ≠ .busOff ∧
      p.put c x = p.setQueue c ((p.queue c).map fun q => if q.origin = x.origin then x else q)) ∨
    (p.outcome c x.origin = .dropped ∧
      p.put c x = { p with counters := { p.counters with txDrop := satAdd p.counters.txDrop 1 } }) := by
  cases ho : p.outcome c x.origin with
  | accepted =>
    refine Or.inl ⟨rfl, ?_, ?_, by simp [Port.put, ho]⟩
    · intro hb; simp [Port.outcome, hb] at ho
    · simp only [Port.outcome] at ho
      split at ho
      · cases ho
      · split at ho
        · cases ho
        · split at ho
          · assumption
          · cases ho
  | coalesced =>
    refine Or.inr (Or.inl ⟨rfl, ?_, by simp [Port.put, ho]⟩)
    intro hb; simp [Port.outcome, hb] at ho
  | dropped => exact Or.inr (Or.inr ⟨rfl, by simp [Port.put, ho]⟩)

@[simp] theorem Port.put_rx (p : Port) (c : TxClass) (x : QueuedFrame) : (p.put c x).rx = p.rx := by
  rcases p.put_cases c x with h | h | h <;> simp [h, Port.setQueue]

@[simp] theorem Port.put_err (p : Port) (c : TxClass) (x : QueuedFrame) : (p.put c x).err = p.err := by
  rcases p.put_cases c x with h | h | h <;> simp [h, Port.setQueue]

@[simp] theorem Port.put_tec (p : Port) (c : TxClass) (x : QueuedFrame) : (p.put c x).tec = p.tec := by
  rcases p.put_cases c x with h | h | h <;> simp [h, Port.setQueue]

@[simp] theorem Port.put_hold (p : Port) (c : TxClass) (x : QueuedFrame) : (p.put c x).hold = p.hold := by
  rcases p.put_cases c x with h | h | h <;> simp [h, Port.setQueue]

@[simp] theorem Port.put_offer (p : Port) (c : TxClass) (x : QueuedFrame) : (p.put c x).offer = p.offer := by
  rcases p.put_cases c x with h | h | h <;> simp [h, Port.setQueue]

/-- A put that is not dropped leaves every counter; a dropped one raises TX_DROP alone. -/
theorem Port.put_counters (p : Port) (c : TxClass) (x : QueuedFrame) :
    (p.put c x).counters = p.counters ∨
    (p.put c x).counters = { p.counters with txDrop := satAdd p.counters.txDrop 1 } := by
  rcases p.put_cases c x with h | h | h <;> simp [h, Port.setQueue]

/-! ### Flags and reports -/

/-- A word that has a flag's mask in it has the flag. -/
theorem hasFlag_or_mask (w : BitVec 22) (f : Flag) : hasFlag (w ||| f.mask) f = true := by
  have h : (w ||| f.mask) &&& f.mask = f.mask := by
    ext i; simp; cases hb : f.mask[i] <;> simp
  simp only [hasFlag, h]
  cases f <;> decide

/-- Setting more bits keeps a flag. -/
theorem hasFlag_or (w v : BitVec 22) (f : Flag) (h : hasFlag w f = true) : hasFlag (w ||| v) f = true := by
  simp only [hasFlag, bne_iff_ne, ne_eq] at *
  intro hz; apply h
  ext i hi
  have hb := congrArg (fun x : BitVec 22 => x[i]) hz
  simp at hb ⊢
  intro hw; exact hb (Or.inl hw)

/-- One report put: it reaches BP URGENT, or it is dropped and TX_DROP is set, with at most one more dropped put. -/
theorem reportPut_cases (s : State) (bp : Port) (flags : BitVec 22) :
    (bp.outcome .urgent .eventReport ≠ .dropped ∧
      reportPut s bp flags = (bp.put .urgent (eventReport s flags), flags)) ∨
    (bp.outcome .urgent .eventReport = .dropped ∧
      (reportPut s bp flags = (bp.put .urgent (eventReport s flags), flags) ∨
       reportPut s bp flags = (bp.put .urgent (eventReport s flags), flags ||| Flag.txDrop.mask) ∨
       reportPut s bp flags = ((bp.put .urgent (eventReport s flags)).put .urgent
         (eventReport s (flags ||| Flag.txDrop.mask)), flags ||| Flag.txDrop.mask))) := by
  simp only [reportPut]
  cases ho : bp.outcome .urgent .eventReport with
  | accepted => simp
  | coalesced => simp
  | dropped =>
    refine Or.inr ⟨rfl, ?_⟩
    by_cases h1 : hasFlag flags .txDrop = true
    · simp [h1]
    · by_cases h2 : hasFlag s.mgmt.enables .txDrop = true <;> simp [h1, h2]

/-- Setting a flag: nothing when the condition fails or the flag is set; else the flag, and where it is enabled a report. -/
theorem raiseWhen_cases (c : Bool) (f : Flag) (s : State) :
    ((c = false ∨ hasFlag s.mgmt.flags f = true) ∧ raiseWhen c f s = s) ∨
    (c = true ∧ hasFlag s.mgmt.flags f = false ∧ hasFlag s.mgmt.enables f = false ∧
      raiseWhen c f s = { s with mgmt := { s.mgmt with flags := s.mgmt.flags ||| f.mask } }) ∨
    (c = true ∧ hasFlag s.mgmt.flags f = false ∧ hasFlag s.mgmt.enables f = true ∧
      raiseWhen c f s = { s with
        bp := (reportPut s s.bp (s.mgmt.flags ||| f.mask)).1
        mgmt := { s.mgmt with flags := (reportPut s s.bp (s.mgmt.flags ||| f.mask)).2 } }) := by
  cases c <;> cases h1 : hasFlag s.mgmt.flags f <;> cases h2 : hasFlag s.mgmt.enables f <;>
    simp [raiseWhen, raised, h1, h2]

/-- A flag that was to be set is set. -/
theorem hasFlag_raise (f : Flag) (s : State) : hasFlag (raise f s).mgmt.flags f = true := by
  rcases raiseWhen_cases true f s with ⟨h, e⟩ | ⟨-, -, -, e⟩ | ⟨-, -, -, e⟩ <;> simp only [raise, e]
  · simpa using h
  · exact hasFlag_or_mask _ _
  · rcases reportPut_cases s s.bp (s.mgmt.flags ||| f.mask) with ⟨-, r⟩ | ⟨-, r | r | r⟩ <;> simp only [r]
    · exact hasFlag_or_mask _ _
    · exact hasFlag_or_mask _ _
    · exact hasFlag_or _ _ _ (hasFlag_or_mask _ _)
    · exact hasFlag_or _ _ _ (hasFlag_or_mask _ _)

/-- Setting a flag keeps every flag that is set. -/
theorem hasFlag_raiseWhen (c : Bool) (f g : Flag) (s : State) (h : hasFlag s.mgmt.flags g = true) :
    hasFlag (raiseWhen c f s).mgmt.flags g = true := by
  rcases raiseWhen_cases c f s with ⟨-, e⟩ | ⟨-, -, -, e⟩ | ⟨-, -, -, e⟩ <;> simp only [e]
  · exact h
  · exact hasFlag_or _ _ _ h
  · rcases reportPut_cases s s.bp (s.mgmt.flags ||| f.mask) with ⟨-, r⟩ | ⟨-, r | r | r⟩ <;> simp only [r]
    · exact hasFlag_or _ _ _ h
    · exact hasFlag_or _ _ _ h
    · exact hasFlag_or _ _ _ (hasFlag_or _ _ _ h)
    · exact hasFlag_or _ _ _ (hasFlag_or _ _ _ h)

/-- Setting a flag changes no part of the management unit but the flags. -/
theorem raiseWhen_mgmt (c : Bool) (f : Flag) (s : State) :
    (raiseWhen c f s).mgmt = { s.mgmt with flags := (raiseWhen c f s).mgmt.flags } := rfl

/-! ### Expiries, requests, hand-offs -/

/-- An expiry of a stopped timer changes nothing; of a running one it happens at its end. -/
theorem onExpiry_cases (t : Timer) (k : State → State) (s : State) :
    (t = none ∧ onExpiry t k s = .next s) ∨ ∃ d, t = some d ∧ onExpiry t k s = .next (k (s.advanceTo d)) := by
  cases t with
  | none => exact Or.inl ⟨rfl, rfl⟩
  | some d => exact Or.inr ⟨d, rfl, rfl⟩

/-- A request is not there, is answered BUSY, or is served. -/
theorem takeRequest_cases (code : Nat) (serve : List Byte → State → State) (s : State) :
    takeRequest code serve s = .next s ∨
    ∃ data rest, s.mgmt.captured = .request data :: rest ∧ u8 data 0 = code ∧ wellFormedRequest data = true ∧
      ((busyFor s code = true ∧ takeRequest code serve s = .next (turnAway code data (dropCaptured rest s))) ∨
       (busyFor s code = false ∧ takeRequest code serve s = .next (serve data (dropCaptured rest s)))) := by
  simp only [takeRequest]
  split
  · rename_i data rest hc
    split
    · rename_i h
      refine Or.inr ⟨data, rest, hc, h.1, h.2, ?_⟩
      cases hb : busyFor s code <;> simp
    · exact Or.inl rfl
  · exact Or.inl rfl

/-- A desk hand-off is not there or not the command's, or is dealt with. -/
theorem takeDesk_cases (isMine : List Byte → Bool) (s : State) :
    takeDesk isMine s = .next s ∨
    ∃ data rest, s.overrides.handOffs = data :: rest ∧ isMine data = true ∧
      takeDesk isMine s = .next (dealDesk data (s.setOverrides { s.overrides with handOffs := rest })) := by
  simp only [takeDesk]
  split
  · rename_i data rest hc
    cases hm : isMine data with
    | true => exact Or.inr ⟨data, rest, hc, hm, by simp⟩
    | false => exact Or.inl (by simp)
  · exact Or.inl rfl

/-! ### Power -/

/-- A sum of floored shares is at most the floored share of the sum. -/
theorem sum_map_div_le (qs : List Nat) (r n : Nat) : (qs.map fun q => q * r / n).sum ≤ qs.sum * r / n := by
  induction qs with
  | nil => simp
  | cons q qs ih =>
    simp only [List.map_cons, List.sum_cons]
    rcases Nat.eq_zero_or_pos n with h | h
    · subst h; simpa using ih
    · rw [Nat.le_div_iff_mul_le h, Nat.add_mul, Nat.add_mul]
      have h1 := Nat.div_mul_le_self (q * r) n
      have h2 := Nat.le_trans (Nat.mul_le_mul_right n ih) (Nat.div_mul_le_self (qs.sum * r) n)
      omega

/-- What one class is granted and what it leaves together are no more than what it was served from. -/
theorem serveClass_le (reached : Bool) (r : Nat) (qs : List Nat) :
    (serveClass reached r qs).grants.sum + (serveClass reached r qs).remainder ≤ r := by
  simp only [serveClass]
  split
  · have h : (qs.map fun _ => 0).sum = 0 := by induction qs <;> simp_all
    simp [h]
  · split
    · simp; omega
    · rename_i h
      have h1 := sum_map_div_le qs r qs.sum
      have h2 : qs.sum * r / qs.sum = r := Nat.mul_div_cancel_left _ (by omega)
      simp only; omega

/-! ### The image write and the roles -/

/-- A write's late end is exactly one after its deadline (R174). -/
theorem StoreRun.late_iff (w : StoreRun) (now : Nat) : w.late now = true ↔ ∃ d, w.deadline = some d ∧ d < now := by
  cases h : w.deadline <;> simp [StoreRun.late, h]

/-- A write ends without a failed step exactly when none is named and it is not late (R174). -/
theorem StoreRun.ending_eq_none (w : StoreRun) (failed : Option StoreStep) (s : State) :
    w.ending failed s = none ↔ failed = none ∧ w.late s.now = false := by
  unfold StoreRun.ending; cases w.late s.now <;> simp

/-- The output that holds a named role is the named one, and it has that role (R137). -/
theorem holds_eq_some (t : Tables) (named : Option Nat) (r : Role) (k : Nat) :
    holds t named r = some k ↔ named = some k ∧ role t k = some r := by
  cases named with
  | none => simp [holds]
  | some n =>
    simp only [holds, Option.some.injEq]
    constructor
    · split
      · rename_i h; rintro ⟨⟩; exact ⟨rfl, h⟩
      · rintro ⟨⟩
    · rintro ⟨rfl, h⟩; rw [if_pos h]

/-- The request that a door reads of its primary zone: the publication's, unless the zone is not valid or was activated since
(R83, R100). -/
theorem readRequest_eq (s : State) (z : Nat) (hv : (zoneCfg s.tables z).valid = true) :
    readRequest s z = if (s.zone z).unpublished = true then 0 else (zoneShare s z).request := by
  unfold readRequest; rw [hv]; cases (s.zone z).unpublished <;> rfl

/-! ### Requests that meet a pending switch -/

/-- Without a pending switch and a STORE no request is turned away (R162). -/
theorem busyFor_of_free (s : State) (code : Nat) (hw : s.mgmt.switch = none) (hs : s.mgmt.store = none) :
    busyFor s code = false := by simp [busyFor, hw, hs]

/-- Without a pending switch a read is never turned away (R162). -/
theorem busyFor_read (s : State) (code : Nat) (hw : s.mgmt.switch = none) (hr : isRead code = true) :
    busyFor s code = false := by simp [busyFor, hw, hr]

/-- A BUSY reply carries no data but a READ RECORD's while NEW MB is pending (R162, R32). -/
theorem turnAway_eq_reply (code : Nat) (data : List Byte) (s : State) (h : code ≠ 1 ∨ newMbPending s = false) :
    turnAway code data s = reply code .busy s := by
  rcases h with h | h <;> simp [turnAway, busyPayload, reply, h]

/-- While NEW MB is pending, a READ RECORD is BUSY and shows the record it names (R32; log 43). -/
theorem turnAway_readRecord (data : List Byte) (s : State) (hw : newMbPending s = true) :
    turnAway 1 data s = replyWith 1 .busy (namedRecordBytes data s) s := by
  simp [turnAway, busyPayload, hw]

/-- A pending switch turns away every request (R162, R171). -/
theorem busyFor_of_switch (s : State) (code : Nat) (hw : s.mgmt.switch.isSome = true) : busyFor s code = true := by
  simp [busyFor, hw]

/-! ### The send-on-change tests -/

/-- A test puts and schedules, and touches neither outputs nor zones (R148). -/
theorem changeTest_keeps (s : State) (n : Nat) :
    (changeTest s n).composer.outputs = s.composer.outputs ∧ (changeTest s n).regulator = s.regulator := by
  unfold changeTest; dsimp only; split
  · split <;> exact ⟨rfl, rfl⟩
  · exact ⟨rfl, rfl⟩

/-- The tests of any entries touch neither outputs nor zones (R141, stage 6). -/
theorem foldl_changeTest_keeps (ns : List Nat) (s : State) :
    (ns.foldl changeTest s).composer.outputs = s.composer.outputs ∧ (ns.foldl changeTest s).regulator = s.regulator := by
  induction ns generalizing s with
  | nil => exact ⟨rfl, rfl⟩
  | cons n ns ih => exact ⟨(ih _).1.trans (changeTest_keeps s n).1, (ih _).2.trans (changeTest_keeps s n).2⟩

end Sys2Proof.Machine
end

