-- ==== Sys2Proof/Tests/Slice0.lean ====
section
/-! SUPPORT. Tests: what the manual's worked cases give, one step each on a small state; the ill-formed frames; and for each
statement of the certificate that has hypotheses a state and operands that meet them. -/

namespace Sys2Proof.Machine.Tests

-- One theorem at a time: many concrete evaluations elaborated at once need more threads than a bounded memory holds.
set_option Elab.async false

/-! ### Helpers -/

/-- A running part in ACTIVE on the line, every table at its defaults, nothing waiting. -/
def live : State :=
  { State.reset with
    phase := .running
    bp := {}
    regulator := { climate := .active, mode := .service }
    doors := { climate := .active }
    screens := { climate := .active }
    supply := { state := .onLine, target := 600, ceiling := 600 }
    composer := { climate := .active, copy := { supply := .onLine, ceiling := 600, surplus := 120 } }
    overrides := { climate := .active }
    mgmt := { flags := 0 } }

/-- One record of a live table replaced. -/
def withRec (k : TableId) (i : Nat) (r : Rec) (s : State) : State :=
  { s with tables := s.tables.set k ((s.tables.get k).set i r) }

/-- The global record with bytes from one place on replaced. -/
def withGlobals (at' : Nat) (bytes : Rec) (s : State) : State :=
  let r := record s.tables .globals 0
  withRec .globals 0 (r.take at' ++ bytes ++ r.drop (at' + bytes.length)) s

/-- A slot FRESH with a value. -/
def withFresh (i : Nat) (v : Int) (s : State) : State :=
  { s with slots := s.slots.set i { state := .fresh, lastWritten := some v, lastGood := some v, reference := some v } }

/-- One captured request waiting. -/
def asked (data : List Byte) (s : State) : State := { s with mgmt := { s.mgmt with captured := [.request data] } }

/-- Whether a command completes in a state of which `p` holds. -/
def gives (c : Instr) (s : State) (p : State → Bool) : Bool :=
  match exec c s with
  | .next t => p t
  | _ => false

/-- A STANDARD DATA frame. -/
def data (ident : BitVec 11) (bytes : List Byte) : Frame := composedFrame ident bytes

/-- A frame in a transmit queue. -/
def queued (ident : BitVec 11) (o : Origin) : QueuedFrame := { frame := data ident [1], origin := o }

/-! ### Well-formedness (1.1) -/

def tooShort : Frame := { data 0x123 [1, 2] with lengthCode := 3 }
def remoteWithData : Frame := { data 0x123 [1] with kind := .remote }
def longCode : Frame := { data 0x123 [1, 2, 3, 4, 5, 6, 7, 8] with lengthCode := 15 }

theorem test_wf_too_short : (Instr.frameReception .bp tooShort).wellFormed = false := by decide
theorem test_wf_remote_with_data : (Instr.frameReception .fp remoteWithData).wellFormed = false := by decide
theorem test_wf_long_code : (Instr.frameReception .fp longCode).wellFormed = true := by decide
theorem test_ill_formed_refused : exec (.frameReception .bp tooShort) live = .refused .illFormedFrame := by rfl

/-! ### Ports (1.7, 1.8) -/

/-- FP of 1.7: CONTROL holds C7, F1; BULK holds F2. -/
def fp17 : State :=
  { live with fp := { live.fp with
      tec := 3
      control := [queued 0x107 (.commandFrame 7), queued 0x201 .forwarded]
      bulk := [queued 0x202 .forwarded] } }

theorem test_priority_control_first :
    gives (.transmitAttempt .fp) fp17 (fun t => t.fp.offer == some ⟨.control, queued 0x107 (.commandFrame 7)⟩) := by
  decide +kernel

/-- 1.7: C7 completes with the content its attempt carried, though newer content is queued. -/
theorem test_completion_keeps_carried :
    gives (.transmitComplete .fp)
      { fp17 with fp := { fp17.fp with offer := some ⟨.control, { queued 0x107 (.commandFrame 7) with
          frame := data 0x107 [9] }⟩ } }
      (fun t => t.fp.control.length == 1 && t.fp.tec == 2 && (t.schedule 7).lastSent == some [9]) := by
  decide +kernel

/-- FP of 1.8 in step 3: count 248, C3 on offer, queues of 1, 2 and 1. -/
def fp18 : State :=
  { live with fp := { fp17.fp with
      tec := 248
      err := .passive
      urgent := [queued 0x103 (.commandFrame 3)]
      offer := some ⟨.urgent, queued 0x103 (.commandFrame 3)⟩ } }

theorem test_bus_off :
    gives (.transmitError .fp) fp18 (fun t => t.fp.err == .busOff && t.fp.tec == 256 && t.fp.counters.flushed == 4
      && t.fp.hold == some 100 && hasFlag t.mgmt.flags .busOff && t.bp.urgent.length == 1) := by
  decide +kernel

/-! ### Classifier (2.10) -/

/-- The frame handling table of 2.10. -/
def table210 (s : State) : State :=
  withRec .frameHandling 0 [0x13, 0xA0, 0x02, 0xFF, 0x07, 0x21, 0, 3]
    (withRec .frameHandling 1 [0x05, 0x10, 0x03, 0xFF, 0x07, 0x14, 0, 0]
      (withRec .frameHandling 2 [0x41, 0x00, 0x04, 0xC0, 0x07, 0x02, 0, 0]
        (withRec .frameHandling 5 [0x11, 0, 0, 0, 0, 0x05, 0, 0]
          (withGlobals 42 [3, 3] s))))

/-- One frame waiting on BP. -/
def onBp (f : Frame) : State := { table210 live with bp := { rx := [f] } }

theorem test_classify_a : gives .frameClassify (onBp (data 0x2A0 [1, 2, 3, 4, 5, 6, 7, 8])) (fun t =>
    t.binder == [⟨[1, 2, 3, 4, 5, 6, 7, 8], .bp, 0, 3⟩] && t.fp.urgent.length == 1 && t.fp.control == []) := by
  decide +kernel
theorem test_classify_b : gives .frameClassify (onBp (data 0x5C0 [2, 0, 0])) (fun t =>
    t.mgmt.captured == [.request [2, 0, 0]] && t.fp == live.fp) := by decide +kernel
theorem test_classify_d : gives .frameClassify (onBp (data 0x412 [1, 2, 3, 4, 5, 6])) (fun t =>
    t.fp == live.fp && t.bp == {}) := by decide +kernel
theorem test_classify_e : gives .frameClassify (onBp (data 0x310 [4])) (fun t =>
    t.overrides.handOffs == [] && t.fp.control.length == 1 && t.bp.counters.lengthShort == 1
      && hasFlag t.mgmt.flags .lengthShort) := by decide +kernel

/-! ### Binder and store (R37, 3.7, 3.8) -/

theorem test_high_first : (Binding.ofRec [12, 39, 16, 1, 1, 0, 1, 0, 0, 0]).fieldBits
    = [39, 38, 37, 36, 35, 34, 33, 32, 47, 46, 45, 44, 43, 42, 41, 40] := by decide

/-- The bindings and slots of 3.7. -/
def store37 (s : State) : State :=
  withRec .bindings 0 [4, 0, 12, 2, 1, 0, 1, 0, 0, 0]
    (withRec .bindings 1 [10, 12, 4, 0, 1, 0, 0, 0, 0, 0]
      (withRec .bindings 2 [12, 39, 16, 1, 1, 0, 1, 0, 0, 0]
        (withRec .slots 4 ([0, 2] ++ le16 (-400) ++ le16 600 ++ le16 200 ++ le16 0 ++ [5, 0])
          (withRec .slots 10 ([5, 1] ++ le16 0 ++ le16 4 ++ le16 100 ++ le16 0 ++ [255, 0])
            (withRec .slots 12 ([3, 0] ++ le16 0 ++ le16 1000 ++ le16 30 ++ le16 0 ++ [255, 0])
              (withGlobals 2 [4, 255, 10, 12] s))))))

/-- A hand-off of 3.7 waiting. -/
def handed (bytes : List Byte) (s : State) : State := { s with binder := [⟨bytes, .bp, 0, 3⟩] }

theorem test_frame_a : gives .binderRun (handed [111, 46, 0, 0, 4, 201, 0, 0] (store37 live)) (fun t =>
    (t.slot 4).lastGood == some (-201) && (t.slot 4).timer == some 2000 && (t.slot 10).lastGood == some 2
      && (t.slot 12).lastGood == some 612 && t.regulator.notices == [⟨10, 2, true⟩]
      && t.supply.notices == [.lineWrite 12 612 false]) := by decide +kernel

theorem test_frame_d : gives .binderRun
    (handed [255, 39, 0, 0, 4] { withFresh 10 2 (store37 live) with slots := (withFresh 4 (-201) live).slots }) (fun t =>
    (t.slot 4).state == .implausible && (t.slot 4).lastWritten == some 1023 && (t.slot 4).lastGood == some (-201)
      && (t.slot 4).implausible == 1 && t.bp.counters.lengthShort == 1 && (t.slot 12).state == .never) := by
  decide +kernel

/-- 3.7.3: SUBSTITUTE gives slot 5's value while slot 4 is IMPLAUSIBLE. -/
theorem test_substitute : (withFresh 5 (-195) { store37 live with
      slots := live.slots.set 4 { state := .implausible, lastGood := some (-201) } }).read (some 4) = (-195, .degraded) := by
  decide +kernel

/-- A running staleness timer on the line voltage slot (3.7.2, time 400). -/
def line400 : State :=
  { store37 live with
    slots := live.slots.set 12 { state := .fresh, lastWritten := some 612, lastGood := some 612, timer := some 400 } }

theorem test_line_stale : gives (.stalenessExpiry 12) line400 (fun t =>
    t.now == 400 && (t.slot 12).state == .stale && t.supply.notices == [.lineLeave 12 .stale 612 .degraded]) := by
  decide +kernel

/-! ### Zones (4.11, 4.12) -/

/-- The outdoor curve of 4.11. -/
def curve411 : Rec :=
  le16 (-300) ++ le16 20 ++ le16 (-150) ++ le16 15 ++ le16 0 ++ le16 10 ++ le16 100 ++ le16 0
    ++ le16 200 ++ le16 0 ++ le16 250 ++ le16 (-5) ++ le16 300 ++ le16 (-10) ++ le16 400 ++ le16 (-10)

theorem test_curve : [-350, -200, -150, 50, 230, 450].map (curveValue (withRec .outdoorCurve 0 curve411 live).tables)
    = [20, 16, 15, 5, -3, -10] := by decide +kernel

/-- Outputs 11 to 14 as 4.12 and 5.9 have them, zone 2 and door 1 with them, outdoor slot 4 at -200. -/
def bus : State :=
  let profile : Rec := le16 184 ++ [40, 24] ++ le16 8000 ++ [5, 3, 16, 10] ++ le16 250
  let s := withRec .outputs 11 ([1, 1, 1, 2, 0, 2] ++ le16 8 ++ [255, 0, 0, 0])
    (withRec .outputs 13 ([1, 0, 3, 0, 0, 2] ++ le16 60 ++ [255, 0, 0, 0])
      (withRec .outputs 14 ([1, 1, 1, 0, 0, 2] ++ le16 120 ++ [255, 1, 0, 0])
        (withRec .outputs 20 ([1, 0, 3, 4, 1, 1] ++ le16 90 ++ [255, 0, 0, 0])
          (withRec .outputs 21 ([1, 2, 1, 5, 1, 1] ++ le16 6 ++ [255, 0, 0, 0])
            (withRec .zones 2 ([1, 0, 0, 30, 2, 31, 1, 255, 0, 255, 0, 255, 11, 255] ++ le16 200 ++ le16 700 ++ le16 0
                ++ [0, 1, 2, 3] ++ profile ++ profile ++ profile ++ profile)
              (withRec .doors 1 ([1, 24, 25, 2, 20, 21, 32, 90] ++ le16 30000 ++ [8] ++ le16 120 ++ [0, 0, 0])
                (withRec .outdoorCurve 0 curve411 (withGlobals 2 [4, 26] (withFresh 4 (-200) live)))))))))
  { s with
    regulator := { s.regulator with
      zones := s.regulator.zones.set 2
        { condition := .regulating, profile := 1, integral := 3200, demand := 330, rawDemand := 330, temp := 180,
          step := some 0 } }
    doors := { s.doors with doors := s.doors.doors.set 1 { period := some 0 } }
    composer := { s.composer with copy := { s.composer.copy with
      zones := s.composer.copy.zones.set 2 { request := 61, grant := 61 } } } }

/-- Step k of 4.12.1. -/
def step412 : State :=
  let s := withFresh 30 185 (withFresh 31 179 bus)
  { s with doors := { s.doors with doors := s.doors.doors.set 1 { ff := 85 } } }

theorem test_zone_step_k : gives (.zoneStep 2) step412 (fun t =>
    t.zone 2 == { condition := .regulating, profile := 1, setpoint := 200, temp := 183, tier := .good, integral := 3209,
                  rawDemand := 345, demand := 345, blower := 372, damper := 250, request := 64, storageRequest := 121,
                  step := some 1000 }) := by decide +kernel

/-- 4.12.2: a budget-limited zone's integral is frozen. -/
theorem test_zone_step_limited : gives (.zoneStep 2)
    { step412 with composer := { step412.composer with copy := { step412.composer.copy with
        zones := step412.composer.copy.zones.set 2 { request := 64, grant := 31, limited := true } } } }
    (fun t => (t.zone 2).integral == 3200) := by decide +kernel

/-! ### Doors (5.9) -/

/-- Door 1 of 5.9 OPEN, zone 2 having asked for 70 and been granted 31. -/
def open59 : State :=
  { bus with
    doors := { bus.doors with doors := bus.doors.doors.set 1 { state := .opened, period := some 0 } }
    composer := { bus.composer with copy := { bus.composer.copy with
      zones := bus.composer.copy.zones.set 2 { request := 70, grant := 31 } } } }

theorem test_door_period_1 : gives (.doorPeriod 1) open59 (fun t =>
    (t.door 1).debt == 189 && (t.door 1).ff == 4 && (t.door 1).stage == 3 && (t.door 1).request == 96) := by
  decide +kernel

/-- R96, R100: the same period when zone 2 has been activated since its publication pays the whole feedforward back. -/
theorem test_door_period_unpublished : gives (.doorPeriod 1)
    { open59 with regulator := { open59.regulator with
        zones := open59.regulator.zones.set 2 { temp := 180, unpublished := true } } }
    (fun t => (t.door 1).debt == 186 && (t.door 1).ff == 4) := by decide +kernel

/-- R87: a release notice whose slot the door's record no longer names leaves it IDLE. -/
theorem test_release_without_slot : gives (.releaseNotice 1)
    (withRec .doors 1 ([1, 24, 255, 2, 20, 21, 32, 90] ++ le16 30000 ++ [8] ++ le16 120 ++ [0, 0, 0])
      (withFresh 27 0 (withGlobals 8 [27]
        { bus with doors := { bus.doors with doors := bus.doors.doors.set 1 { notices := [.release 25 1] } } })))
    (fun t => (t.door 1).state == .idle && (t.door 1).notices == []) := by decide +kernel

/-- 5.9.3: the door reports 0 and goes on at stage 3. -/
theorem test_door_closes : gives (.doorOpenNotice 1)
    { bus with
      doors := { bus.doors with
        doors := bus.doors.doors.set 1
          { state := .opened, stage := 3, ownStage := 3, fan := .on, openTimer := some 120000,
            notices := [.doorOpen 24 0 true] } } }
    (fun t => (t.door 1).state == .runOn && (t.door 1).heldStage == 3 && (t.door 1).stage == 3
      && (t.door 1).runOn == some 8000 && (t.door 1).request == 96) := by decide +kernel

/-! ### Screens (6.9, 6.10) -/

/-- Channel 0 of 6.10: glass slot 40, air 41, humidity 42, heater output 30; outdoor slot 4. -/
def pane (glass air humidity : Int) (c : ScreenCondition) : State :=
  let s := withFresh 40 glass (withFresh 41 air (withFresh 42 humidity (withFresh 4 (-80)
    (withRec .outputs 30 ([1, 0, 3, 6, 2, 0] ++ le16 25 ++ [255, 0, 0, 0])
      (withRec .screens 0 ([1, 40, 41, 42, 30, 0] ++ le16 8 ++ le16 15 ++ le16 25 ++ le16 10 ++ le16 30 ++ [10, 0]
          ++ le16 600) (withGlobals 2 [4] live))))))
  { s with screens := { s.screens with channels := s.screens.channels.set 0 { condition := c, timer := some 0 } } }

theorem test_screen_eval_1 : gives (.screenEvaluation 0) (pane (-15) 40 800 .clear) (fun t =>
    t.screen 0 == ⟨.ice, .iceTest, 3, 3, 35, 5, -20, 25, some 2000⟩ && hasFlag t.mgmt.flags .screenFog) := by
  decide +kernel
theorem test_screen_eval_3 : gives (.screenEvaluation 0) (pane 31 150 500 .ice) (fun t =>
    t.screen 0 == ⟨.fogging, .margin, 2, 2, 95, 55, -24, 15, some 2000⟩ && !hasFlag t.mgmt.flags .screenFog) := by
  decide +kernel
theorem test_screen_eval_4 : gives (.screenEvaluation 0) (pane 138 180 724 .fogging) (fun t =>
    t.screen 0 == ⟨.fogging, .margin, 2, 2, 51, 129, 9, 15, some 2000⟩) := by decide +kernel

/-! ### Supply and budget (7.6, 7.7) -/

/-- The stored requests of 7.6. -/
def requests76 : Requests :=
  { f := List.replicate 48 0, screens := [30, 0], cabs := [45, 0, 0, 0, 0, 0, 0, 0], doors := [40, 40, 0, 0, 0, 0],
    saloons := [0, 62, 70, 55, 90, 48, 0, 0], storage := [0, 80, 100, 0, 0, 0, 0, 0] }

theorem test_allocation_short : (allot 300 90 requests76).saloons = [0, 27, 31, 24, 40, 21, 0, 0] ∧
    (allot 300 90 requests76).shortClass = .p3 ∧ (allot 300 90 requests76).storage = List.replicate 8 0 := by decide
theorem test_allocation_surplus : (allot 600 90 requests76).storage = [0, 40, 50, 0, 0, 0, 0, 0] ∧
    (allot 600 90 requests76).shortClass = .none := by decide

/-- A line sample below 400 V on the line (7.7): BREAK, the ceiling at the break allowance at once. -/
theorem test_break : gives .lineWriteNotice { live with supply := { live.supply with notices := [.lineWrite 12 380 false] } }
    (fun t => t.supply.state == .breaking && t.supply.ceiling == 20 && hasFlag t.mgmt.flags .supplyBreak
      && t.composer.publications.length == 1) := by decide +kernel

/-! ### Composer (8.6) -/

/-- Zone 2's fill with the figures of 8.6: blower 11 at 400, H1 on output 13 rated 30, H2 on output 14 rated 60, G = 27. -/
def fill86 (supply : SupplyState) : State :=
  let s := withRec .outputs 13 ([1, 0, 3, 0, 0, 2] ++ le16 30 ++ [255, 0, 0, 0])
    (withRec .outputs 14 ([1, 1, 1, 0, 0, 2] ++ le16 60 ++ [255, 1, 0, 0]) bus)
  { s with
    regulator := { s.regulator with zones := s.regulator.zones.set 2 { demand := 345, blower := 400 } }
    composer := { s.composer with
      publications := [{ supply := supply,
                         zones := (List.replicate 8 {}).set 2 { request := 62, grant := 27, limited := true } }] } }

theorem test_fill : gives .publicationTake (fill86 .onLine) (fun t =>
    [11, 13, 14].map (fun k => (t.output k).value) == [400, 2, 66]) := by decide +kernel
theorem test_fill_break : gives .publicationTake (fill86 .breaking) (fun t =>
    [11, 13, 14].map (fun k => (t.output k).value) == [400, 0, 0]) := by decide +kernel

/-! ### Override stack (9.6) -/

/-- Presets 0 and 4 of 9.6 and the stack at time 30. -/
def desk (bytes : List Byte) : State :=
  let s := withRec .presets 0 ([0x58, 0x22, 0x02, 0, 0, 1] ++ le16 500)
    (withRec .presets 4 ([0xB4, 0x20, 0x03, 0, 0, 0] ++ le16 300) live)
  { s with overrides := { s.overrides with
      handOffs := [bytes]
      entries := [⟨3, some 150000⟩, ⟨2, some 320000⟩, ⟨0, some 610000⟩, ⟨1, none⟩] } }

theorem test_push_discards : gives .push { desk [1, 4] with now := 40000 } (fun t =>
    t.overrides.entries == [⟨4, some 220000⟩, ⟨3, some 150000⟩, ⟨2, some 320000⟩, ⟨0, some 610000⟩]
      && hasFlag t.mgmt.flags .overrideDiscard && t.override.blowerFloor == 300 && t.override.screenFloor == 3) := by
  decide +kernel
theorem test_push_moves_up : gives .push { desk [1, 0] with now := 50000 } (fun t =>
    t.overrides.entries == [⟨0, some 650000⟩, ⟨3, some 150000⟩, ⟨2, some 320000⟩, ⟨1, none⟩]
      && !hasFlag t.mgmt.flags .overrideDiscard) := by decide +kernel
theorem test_remove_absent : gives .remove (desk [3, 5]) (fun t =>
    hasFlag t.mgmt.flags .deskReject && t.overrides.entries.length == 4) := by decide +kernel

/-! ### Management (10.8, R175) -/

/-- The window and buffer of 10.8 after step 4. -/
def load108 : State :=
  { live with mgmt := { live.mgmt with
      load := .loading
      window := some ⟨.presets, 2, 3⟩
      buffer := List.replicate 21 0
      expected := 3
      timer := some 500
      captured := [.loadData [3, 1, 2, 3, 4, 5, 6, 7]] } }

theorem test_load_completes : gives .loadData load108 (fun t =>
    t.mgmt.load == .complete && t.mgmt.buffer == List.replicate 21 0 ++ [1, 2, 3] && t.mgmt.timer == none
      && hasFlag t.mgmt.flags .loadDone) := by decide +kernel

/-- A COMPLETE window of table 12 that makes preset 2 invalid. -/
def full108 (request : List Byte) : State :=
  asked request { live with
    mgmt := { live.mgmt with load := .complete, window := some ⟨.presets, 2, 3⟩, buffer := List.replicate 24 0 }
    overrides := { live.overrides with entries := [⟨2, some 320000⟩, ⟨5, none⟩] } }

theorem test_activate_wrong_table : gives .activate (full108 [4, 10]) (fun t =>
    t.mgmt.load == .complete && (t.bp.control.map fun x => x.frame.data) == [[4, 2, 0, 0, 0, 0, 0, 0]]) := by
  decide +kernel
theorem test_activate_prunes : gives .activate (full108 [4, 12]) (fun t =>
    t.mgmt.load == .empty && t.overrides.entries == [⟨5, none⟩]
      && t.bp.control == [⟨data 0x5C1 [4, 0, 0, 0, 0, 0, 0, 0], .reply false⟩]) := by decide +kernel

theorem test_read_record : gives .readRecord (asked [1, 13, 0, 0] live) (fun t =>
    (t.bp.control.map fun x => x.frame.data) == [[1, 0, 0xC0, 0x05, 255, 255, 255, 255]]) := by decide +kernel
theorem test_read_state_ceiling : gives .readState (asked [2, 6, 0, 6] live) (fun t =>
    (t.bp.control.map fun x => x.frame.data) == [[2, 0, 0x58, 0x02, 0, 0, 0, 0]]) := by decide +kernel
theorem test_unknown_request : gives .unknownRequest (asked [] live) (fun t =>
    (t.bp.control.map fun x => x.frame.data) == [[0, 1, 0, 0, 0, 0, 0, 0]]) := by decide +kernel

/-- A start of a part with a blank image leaves what reset leaves. -/
theorem test_start : startPart .power live = { State.reset with freeIndex := 1 } := by decide +kernel

/-! ### Witnesses: states and operands that meet the hypotheses of the statements, clause by clause -/

theorem witness_StepRunsFront : ({ live with pending := [.clear] }).pending = .clear :: [] := rfl
theorem witness_ExecLeavesQueue : exec .frameClassify live = .next live := rfl
theorem witness_StopsOnlyOnIllFormedFrame :
    Instr.powerOn.wellFormed = true ∧ (Instr.frameReception .bp tooShort).wellFormed = false := by decide
theorem witness_StartWithoutImage : live.image.signed = false ∧ live.mgmt.store = none := by decide

/-- A part whose image holds the groups with a 1 in `codes`, an image write under way when `w` says so. -/
def imaged (codes : List (BitVec 2)) (w : Option StoreRun) : State :=
  { live with
    image := { signed := true, codes := codes, stored := (withRec .presets 0 [0, 0x20, 0, 0, 0, 0, 0, 0] live).tables }
    mgmt := { live.mgmt with store := w } }

/-- R174: a write whose 800 ms are over has ended with STORE_FAULT and leaves no signature. -/
theorem test_late_write_end : gives (.storeWriteEnd none)
    { imaged [0, 0, 0, 0, 0, 1, 0] (some ⟨32, some 800⟩) with now := 801 }
    (fun t => !t.image.signed && t.mgmt.store == none
      && (t.bp.control.map fun x => x.frame.data) == [[6, 7, 0, 0, 0, 0, 0, 0]]) := by decide +kernel

theorem witness_StartLoadsAcceptedGroups :
    (imaged [0, 0, 0, 0, 0, 1, 0] none).mgmt.store = none ∧
    ((imaged [0, 0, 0, 0, 0, 1, 0] none).image.signed = true ∧
      (imaged [0, 0, 0, 0, 0, 1, 0] none).image.codes.getD TableId.presets.group.number 0 = 1) ∧
    gives .powerOn (imaged [0, 0, 0, 0, 0, 1, 0] none) (fun t => (presetCfg t.tables 0).valid) = true ∧
    gives .resetPin (imaged [0, 0, 0, 0, 0, 0, 1] none) (fun t => !(presetCfg t.tables 0).valid) = true := by
  decide +kernel

/-- A part in INIT with a valid zone, door and screen channel. -/
def inInit : State :=
  withRec .zones 0 [1] (withRec .doors 0 [1] (withRec .screens 0 [1] (withRec .commandFrames 0 [1] State.reset)))

theorem witness_InitEndStartsBlocks : inInit.phase = .init ∧ (zoneCfg inInit.tables 0).valid = true ∧
    (doorCfg inInit.tables 0).valid = true ∧ (screenCfg inInit.tables 0).valid = true ∧
    (frameCfg inInit.tables 0).valid = true := by decide +kernel

theorem witness_quiet : inInit.Quiet := by constructor <;> decide +kernel
theorem witness_InitStaysQuiet : inInit.InitQuiet ∧ step inInit = .next (idle inInit) ∧ inInit.phase = .init ∧
    Instr.frameClassify.wellFormed = true := ⟨fun _ => witness_quiet, rfl, rfl, rfl⟩

/-- The running part as it is about to carry out a command. -/
def about (c : Instr) (s : State) : State := { s with pending := [c] }

theorem witness_ShapesKept : live.Shaped ∧ step live = .next (idle live) := by
  refine ⟨⟨?_, ?_, ?_, ?_, ?_, ?_, ?_, ?_, ?_, ?_⟩, rfl⟩
  · intro k; cases k <;> decide +kernel
  · intro k; cases k <;> decide +kernel
  · decide
  · decide
  · decide
  · decide
  · decide
  · decide
  · decide
  · exact ⟨by decide, rfl, rfl, rfl⟩

/-- FP with one frame on offer at the edge of PASSIVE. -/
def offering : State :=
  { live with fp := { live.fp with
      tec := 127
      urgent := [queued 0x103 (.commandFrame 3)]
      offer := some ⟨.urgent, queued 0x103 (.commandFrame 3)⟩ } }

theorem sound_of_short (p : Port) (h : p.urgent.length ≤ 1 ∧ p.control.length ≤ 1 ∧ p.bulk.length ≤ 1) :
    OneOfEachOrigin p.urgent ∧ OneOfEachOrigin p.control ∧ OneOfEachOrigin p.bulk :=
  ⟨fun _ _ => Nat.le_trans (List.length_filter_le _ _) h.1, fun _ _ => Nat.le_trans (List.length_filter_le _ _) h.2.1,
    fun _ _ => Nat.le_trans (List.length_filter_le _ _) h.2.2⟩

theorem witness_PortsSoundKept :
    (about (.transmitError .fp) offering).PortsSound ∧ ∃ t, step (about (.transmitError .fp) offering) = .next t := by
  refine ⟨⟨⟨by decide, by decide, by decide, by decide, by decide, by decide, by decide, by decide,
      sound_of_short _ (by decide), ?_, by unfold Counters.Bounded; decide⟩,
    ⟨by decide, by decide, by decide, by decide, by decide, by decide, by decide, by decide,
      sound_of_short _ (by decide), ?_, by unfold Counters.Bounded; decide⟩⟩, _, rfl⟩
  · intro o h; cases h
  · intro o h; cases h; exact ⟨_, _, rfl, rfl⟩

theorem witness_TimersSoundKept : line400.InitQuiet ∧ line400.TimersSound ∧ step line400 = .next (idle line400) := by
  refine ⟨fun h => (by cases h), ⟨?_, ?_, by decide, by decide⟩, rfl⟩
  · unfold SlotLive.TimerSound; decide +kernel
  · unfold DoorLive.TimersSound; decide +kernel

theorem witness_ClimateBoundsKept :
    step live = .next (idle live) ∧ live.ZonesBounded ∧ live.DoorsBounded ∧ live.ScreensLevelled := by
  refine ⟨rfl, ?_, ?_, ?_⟩
  · intro z l h
    have hl : l = {} := by
      simp only [live, List.getElem?_replicate] at h
      split at h <;> simp_all
    subst hl
    have : 0 ≤ (profileCfg live.tables z 0).integralLimit := Int.le_max_left _ _
    exact ⟨⟨by simpa using this, this⟩, by decide, by decide, by decide, by decide, by decide, by decide, by decide,
      by decide⟩
  · intro d l h
    have hl : l = {} := by
      simp only [live, List.getElem?_replicate] at h
      split at h <;> simp_all
    subst hl
    exact ⟨Nat.zero_le _, by decide, by decide, by decide, by decide, by decide⟩
  · unfold State.ScreensLevelled ScreenLive.Levelled; decide +kernel

/-- A publication of 27 kW to zone 2 waiting, and a copy that holds BREAK. -/
def published : State :=
  { fill86 .onLine with composer := { (fill86 .onLine).composer with
      copy := { ceiling := 20 }
      publications := [{ ceiling := 300, zones := (List.replicate 8 {}).set 2 { request := 62, grant := 27 } }] } }

theorem witness_GrantsBoundedKept :
    published.GrantsBounded ∧ ∃ t, step (about .publicationTake published) = .next t := by
  refine ⟨?_, _, rfl⟩
  unfold State.GrantsBounded Publication.WithinCeiling; decide +kernel

theorem witness_ConditioningCutKept :
    published.ConditioningCut ∧ published.composer.copy.supply.cut = true ∧
      ∃ t, step (about .publicationTake published) = .next t := by
  refine ⟨fun _ k _ => ?_, by decide, _, rfl⟩
  have : published.output k = {} := by
    simp only [State.output, published, fill86, bus, withRec, withGlobals, withFresh, live, List.getD_eq_getElem?_getD,
      List.getElem?_replicate]
    split <;> rfl
  rw [this]; exact ⟨rfl, rfl⟩

theorem published_draws_nothing (mine : Role → Bool) : drawnBy published mine = 0 := by
  have h : ∀ k ∈ List.range 48, drawn published k = 0 := by decide +kernel
  have e : (List.range 48).map (fun k =>
      if (published.output k).forced.isNone && (role published.tables k).any mine then drawn published k else 0)
      = (List.range 48).map fun _ => 0 :=
    List.map_congr_left fun k hk => by rw [h k hk, ite_self]
  unfold drawnBy; rw [e]; decide

theorem witness_DrawBoundedKept : published.DrawBounded ∧ published.SourcesBounded ∧
    gives .publicationTake published (fun t => t.tables == published.tables) = true ∧
    step (about .publicationTake published) = exec .publicationTake published := by
  refine ⟨?_, ⟨fun z => ?_, fun d => ?_, fun c => ?_⟩, by decide +kernel, rfl⟩
  · unfold State.DrawBounded; decide +kernel
  all_goals rw [published_draws_nothing]; exact Nat.zero_le _

/-- Preset 0 alone in the stack. -/
def stacked (bytes : List Byte) : State :=
  { desk bytes with overrides := { (desk bytes).overrides with entries := [⟨0, some 600000⟩] } }

theorem witness_StackSoundKept : (about .push (stacked [1, 4])).InitQuiet ∧ (about .push (stacked [1, 4])).StackSound ∧
    ∃ t, step (about .push (stacked [1, 4])) = .next t := by
  refine ⟨fun h => (by cases h), ⟨by decide, by decide, by decide +kernel, by decide⟩, _, rfl⟩

/-! Ports -/

/-- BP with n frames in its receive FIFO. -/
def filled (n : Nat) : State := { live with bp := { rx := List.replicate n (data 0x2A0 [1]) } }

/-- BP in BUS_OFF. -/
def bpOff : State := { live with bp := { err := .busOff, tec := 256, hold := some 100 } }

theorem witness_ReceptionQueuesOrOverruns :
    (data 0x2A0 [1]).wellFormed = true ∧ (filled 31).phase = .running ∧ (filled 31).bp.err ≠ .busOff ∧
    ((filled 31).port .bp).rx.length < 32 ∧ 32 ≤ ((filled 32).port .bp).rx.length ∧
    State.reset.phase = .init ∧ (bpOff.port .bp).err = .busOff := by decide

/-- BP whose URGENT queue is full of forwarded frames. -/
def urgentFull : Port := { urgent := List.replicate 8 (queued 0x201 .forwarded) }

theorem witness_RaiseSetsAndReports :
    hasFlag State.reset.mgmt.flags .start = true ∧
    (hasFlag live.mgmt.flags .txDrop = false ∧ hasFlag live.mgmt.enables .txDrop = false) ∧
    (hasFlag live.mgmt.flags .busOff = false ∧ hasFlag live.mgmt.enables .busOff = true ∧
      live.bp.outcome .urgent .eventReport ≠ .dropped) ∧
    urgentFull.outcome .urgent .eventReport = .dropped := by decide

theorem witness_PutMeetsPort :
    bpOff.bp.err = .busOff ∧
    (fp17.fp.err ≠ .busOff ∧ (Origin.commandFrame 7).coalesces = true ∧
      ∃ q ∈ fp17.fp.queue .control, q.origin = .commandFrame 7) ∧
    (¬(Origin.forwarded.coalesces = true) ∧ ({ urgentFull with urgent := urgentFull.urgent.tail }.queue .urgent).length < 8) ∧
    8 ≤ (urgentFull.queue .urgent).length ∧ TxClass.bulk ≠ .urgent := by decide

theorem witness_AttemptOffersByPriority :
    fp17.phase = .running ∧ (fp17.port .fp).err ≠ .busOff ∧ (fp17.port .fp).offer = none := by decide

theorem witness_CompletionSendsHead :
    (offering.port .fp).offer = some ⟨.urgent, queued 0x103 (.commandFrame 3)⟩ ∧
    (offering.port .fp).queue .urgent = queued 0x103 (.commandFrame 3) :: [] ∧
    (queued 0x201 .forwarded).origin = .forwarded := by decide

theorem witness_TransmitErrorCountsToBusOff :
    (({ fp18 with fp := { fp18.fp with tec := 247 } }).port .fp).tec + 8 ≤ 255 ∧
    (256 ≤ (fp18.port .fp).tec + 8 ∧ (fp18.port .fp).offer = some ⟨.urgent, queued 0x103 (.commandFrame 3)⟩ ∧
      fp18.mgmt.switch = none) ∧
    (bpOff.port .bp).hold = some 100 := by decide

/-! Classifier -/

/-- Both FIFOs hold a frame and BP was served last. -/
def bothWait : State :=
  { live with bp := { rx := [data 0x2A0 [1]] }, fp := { rx := [data 0x2A1 [1]] }, classifier := { lastServed := .bp } }

theorem witness_ClassifierTakesTurns :
    (bothWait.phase = .running ∧ (bothWait.port .fp).rx = [data 0x2A1 [1]] ∧
      bothWait.classifier.lastServed = PortId.fp.other) ∧
    ((onBp (data 0x2A0 [1])).port .bp).rx = [data 0x2A0 [1]] ∧
    ((onBp (data 0x2A0 [1])).port PortId.bp.other).rx = [] := by decide +kernel

theorem witness_ClassifierCaptures :
    (data 0x5C0 [1]).ident = .standard live.classifier.mb ∧ (data 0x5C3 [1]).ident = .standard (live.classifier.mb + 3) ∧
    (data 0x5C0 [1]).kind = .data ∧
    ¬((data 0x5C1 [1]).ident = .standard live.classifier.mb ∨
      (data 0x5C1 [1]).ident = .standard (live.classifier.mb + 3)) := by decide

theorem witness_ClassifierAppliesDefaults :
    remoteWithData.kind = .remote ∧
    (∃ e, ({ data 0 [] with ident := .extended 0x18FF0A21 }).ident = .extended e) ∧
    ((∀ k, k < 128 → (frameEntry live.tables k).matchesFrame .bp 0x123 = false) ∧
      ¬((0x123 : BitVec 11) = live.classifier.mb ∨ (0x123 : BitVec 11) = live.classifier.mb + 3)) ∧
    defaultDisposition live.tables .bp = .forward ∧ defaultDisposition (withGlobals 40 [1] live).tables .bp = .drop ∧
    defaultDisposition (withGlobals 40 [2] live).tables .bp = .yield := by
  refine ⟨rfl, ⟨_, rfl⟩, ⟨by decide +kernel, by decide⟩, by decide +kernel⟩

theorem witness_ClassifierAppliesEntry :
    (∀ j, j < 1 → (frameEntry (table210 live).tables j).matchesFrame .bp 0x310 = false) ∧
    (frameEntry (table210 live).tables 1).matchesFrame .bp 0x310 = true ∧
    (data 0x310 [4]).data.length < (frameEntry (table210 live).tables 1).minimumLength ∧
    (frameEntry (table210 live).tables 1).minimumLength ≤ (data 0x310 [4, 1]).data.length := by decide +kernel

/-! Binder and store -/

theorem witness_FieldBitsLocated :
    (Binding.ofRec [0, 12, 4, 0, 1, 0, 0, 0, 0, 0]).fieldBits = [15, 14, 13, 12] ∧
    64 ∈ (Binding.ofRec [0, 60, 5, 0, 1, 0, 0, 0, 0, 0]).fieldBits ∧
    8 ∈ (Binding.ofRec [0, 7, 2, 0, 1, 0, 0, 0, 0, 0]).fieldBits ∧ [(1 : Byte)].length ≤ 8 / 8 := by decide

theorem witness_BinderRunsHandOff :
    ({ live with binder := [⟨[1], .bp, 0, 1⟩] }).binder = ⟨[1], .bp, 0, 1⟩ :: [] ∧
    (Binding.ofRec [4, 0, 0, 2, 1, 0, 0, 0, 0, 0]).length = 0 ∧
    16 < (Binding.ofRec [4, 0, 17, 2, 1, 0, 0, 0, 0, 0]).length ∧
    (Binding.ofRec [4, 0, 8, 2, 1, 0, 0, 0, 0, 0]).fits [1] = true ∧
    (Binding.ofRec [4, 0, 9, 2, 1, 0, 0, 0, 0, 0]).fits [1] = false ∧
    96 ≤ (Binding.ofRec [96, 0, 8, 2, 1, 0, 0, 0, 0, 0]).slot ∧
    (Binding.ofRec [95, 0, 8, 2, 1, 0, 0, 0, 0, 0]).slot = 95 := by decide

theorem witness_WriteMovesSlot :
    12 < (store37 live).slots.length ∧ (slotCfg (store37 live).tables 12).plausible 1000 = true ∧
    (slotCfg (store37 live).tables 12).plausible 1001 = false ∧ (line400.slot 12).state = .fresh ∧
    (globals line400.tables).lineSlot = some 12 ∧ (globals line400.tables).modeSlot = some 10 ∧
    (globals (withGlobals 6 [13] live).tables).poleSlot = some 13 ∧
    ((doorCfg bus.tables 1).valid = true ∧ (doorCfg bus.tables 1).openSlot = some 24 ∧
      (doorCfg bus.tables 1).releaseSlot = some 25 ∧ bus.doors.doors[1]? = some { period := some 0 }) := by decide +kernel

theorem witness_StalenessExpires : line400.slots.length = 96 ∧ (line400.slot 12).timer = some 400 ∧
    (globals line400.tables).lineSlot = some 12 ∧ (globals live.tables).lineSlot = none := by decide +kernel

theorem witness_EffectiveValueRead :
    (live.slot 4).state = .never ∧ (withFresh 4 7 live).slot 4 = ⟨.fresh, some 7, some 7, none, some 7, 0⟩ ∧
    (slotCfg (store37 live).tables 12).policy = .hold ∧ (slotCfg (store37 live).tables 10).policy = .fallback ∧
    (slotCfg (store37 live).tables 4).policy = .substitute ∧ (slotCfg (store37 live).tables 4).substitute = some 5 ∧
    (SlotCfg.ofRec [0, 2, 0, 0, 0, 0, 0, 0, 0, 0, 255]).substitute = none := by decide +kernel

/-! Zones -/

/-- A mode notice waiting. -/
def noticed (v : Int) : State := { bus with regulator := { bus.regulator with notices := [⟨10, v, true⟩] } }

theorem witness_ModeNoticeDerivesClimate :
    (noticed 0).regulator.notices = ⟨10, 0, true⟩ :: [] ∧ (noticed 0).regulator.climate = .active ∧
    (zoneCfg (noticed 0).tables 2).valid = true := by decide +kernel

theorem witness_CurveInterpolates : ∀ i, i < 7 → curveX bus.tables i < curveX bus.tables (i + 1) := by decide +kernel

theorem witness_ZoneStepRegulates :
    step412.regulator.zones.length = 8 ∧ step412.regulator.climate = .active ∧ (step412.zone 2).step = some 0 ∧
    (zoneTemperature step412 2).1 ≠ .none := by decide +kernel

theorem witness_ZoneFallsBackOrStandsBy :
    bus.regulator.zones.length = 8 ∧ (bus.zone 2).step = some 0 ∧ (zoneTemperature bus 2).1 = .none ∧
    ({ bus with regulator := { bus.regulator with climate := .standby } }).regulator.climate = .standby ∧
    ({ hold := some 60000 } : ZoneLive).hold = some 60000 := by decide +kernel

/-! Doors -/

/-- Door 1 with a live state of the test's own. -/
def atDoor (l : DoorLive) (s : State) : State := { s with doors := { s.doors with doors := s.doors.doors.set 1 l } }

theorem witness_DoorPeriodAccountsDebt :
    open59.doors.doors.length = 6 ∧ (open59.door 1).period = some 0 ∧ open59.doors.climate = .active ∧
    (open59.door 1).state ≠ .fault ∧ ((atDoor { state := .fault, period := some 0 } bus).door 1).state = .fault ∧
    ({ open59 with doors := { open59.doors with climate := .standby } }).doors.climate = .standby := by decide +kernel

theorem witness_DoorNoticesMoveDoor :
    (atDoor { notices := [.doorOpen 24 1 true] } bus).doors.doors.length = 6 ∧
    ((atDoor { notices := [.doorOpen 24 1 true] } bus).door 1).notices = .doorOpen 24 1 true :: [] ∧
    ((atDoor { notices := [.release 25 1] } bus).door 1).notices = .release 25 1 :: [] ∧
    (doorCfg bus.tables 1).valid = true ∧ bus.doors.climate = .active ∧ (doorCfg bus.tables 0).valid = false ∧
    (doorCfg bus.tables 1).releaseSlot ≠ none := by
  decide +kernel

theorem witness_DoorTimersMoveDoor :
    bus.doors.doors.length = 6 ∧
    ((atDoor { state := .opened, openTimer := some 9 } bus).door 1).openTimer = some 9 ∧
    ((atDoor { state := .runOn, runOn := some 9 } bus).door 1).runOn = some 9 ∧
    ((atDoor { signalLost := some 9 } bus).door 1).signalLost = some 9 ∧ bus.override.curtainInhibit = false := by
  decide +kernel

/-- Every block with a notice of STANDBY waiting. -/
def parking : State :=
  { bus with
    doors := { bus.doors with climateNotices := [.standby] }
    screens := { bus.screens with climateNotices := [.standby] }
    composer := { bus.composer with climateNotices := [.standby] }
    overrides := { bus.overrides with climateNotices := [.standby] } }

theorem witness_ClimateNoticesTaken :
    parking.doors.climateNotices = .standby :: [] ∧ parking.screens.climateNotices = .standby :: [] ∧
    parking.composer.climateNotices = .standby :: [] ∧ parking.overrides.climateNotices = .standby :: [] ∧
    (doorCfg parking.tables 1).valid = true := by decide +kernel

/-! Screens -/

theorem witness_ScreenEvaluationDecides :
    (pane 29 0 0 .ice).screens.channels.length = 2 ∧ ((pane 29 0 0 .ice).screen 0).timer = some 0 ∧
    (pane 29 0 0 .ice).screens.climate = .active ∧
    (((pane 29 0 0 .ice).read (some 40)).2 ≠ .none ∧ ((pane 29 0 0 .ice).read (some 40)).1 ≤ 29) ∧
    30 ≤ ((pane 30 0 0 .ice).read (some 40)).1 ∧
    (((pane 0 0 0 .clear).read (some 40)).1 ≤ 0 ∧ ((pane 0 0 0 .clear).read (some 4)).1 ≤ 5) ∧
    (live.read (screenCfg live.tables 0).glass).2 = .none := by decide +kernel

/-! Supply -/

/-- A notice waiting in a supply state. -/
def supplied (st : SupplyState) (n : SupplyNotice) : State :=
  { live with supply := { live.supply with state := st, notices := [n] } }

theorem witness_LineNoticesMoveSupply :
    (supplied .onLine (.lineWrite 12 399 false)).supply.notices = .lineWrite 12 399 false :: [] ∧
    (399 : Int) < (globals live.tables).breakLevel ∧ (globals live.tables).breakLevel ≤ (400 : Int) ∧
    (449 : Int) < (globals live.tables).resumeLevel ∧ ¬(450 : Int) < (globals live.tables).resumeLevel ∧
    (supplied .breaking (.lineLeave 12 .stale 612 .degraded)).supply.notices
      = .lineLeave 12 .stale 612 .degraded :: [] ∧
    (supplied .offWire (.lineLeave 12 .stale 612 .degraded)).supply.state = .offWire := by decide +kernel

theorem witness_PoleChangeMovesSupply :
    (supplied .onLine (.poleChange 13 0)).supply.notices = .poleChange 13 0 :: [] ∧
    (supplied .onLine (.poleChange 13 0)).supply.state ≠ .offWire ∧
    (supplied .offWire (.poleChange 13 1)).supply.state = .offWire ∧
    ((withFresh 12 450 (withGlobals 5 [12] live)).read (some 12)).2 = .good ∧
    (globals (withGlobals 5 [12] live).tables).resumeLevel ≤ 450 ∧ (live.read (globals live.tables).lineSlot).2 ≠ .good := by
  decide +kernel

/-- A supply unit whose three timers run, in BREAK. -/
def broken : State :=
  { live with supply := { live.supply with
      state := .breaking, resumeDelay := some 500, longBreak := some 5000, budget := some 100 } }

theorem witness_SupplyTimersAndResume :
    broken.supply.resumeDelay = some 500 ∧ broken.supply.longBreak = some 5000 ∧ broken.supply.budget = some 100 ∧
    (globals live.tables).autoResume = true ∧ (globals (withGlobals 9 [0] live).tables).autoResume = false ∧
    poleDown broken = false ∧ poleDown (withFresh 13 0 (withGlobals 6 [13] broken)) = true ∧
    ((asked [14] broken).mgmt.captured = .request (14 :: []) :: [] ∧ (asked [14] broken).mgmt.switch = none ∧
      (asked [14] broken).mgmt.store = none) ∧
    (asked [14] { broken with supply := { broken.supply with state := .held } }).supply.state = .held ∧
    (asked [14] broken).supply.state ≠ .held ∧ (allot 20 0 (storedRequests broken)).shortClass = .none ∧
    (allot 20 0 (storedRequests { step412 with regulator := { step412.regulator with
      zones := step412.regulator.zones.set 2 { request := 61 } } })).shortClass ≠ .none := by decide +kernel

theorem witness_ClassServed : [40, 40].sum ≤ 80 ∧ 79 < [40, 40].sum := by decide

/-! Composer -/

theorem witness_FillWithinBudget :
    (outputCfg bus.tables 13).kind = .staged 3 ∧ 2 ≤ 3 ∧ (outputCfg bus.tables 13).power 2 ≤ 40 ∧
    (outputCfg bus.tables 13).composerRated ≠ 0 ∧ (outputCfg bus.tables 12).composerRated = 0 ∧
    3 ≤ (outputCfg bus.tables 13).kind.full ∧ (outputCfg bus.tables 11).kind = .proportional ∧
    (outputCfg bus.tables 11).composerRated ≠ 0 ∧
    (OutputCfg.ofRec ([1, 2, 0, 5, 1, 1] ++ le16 6 ++ [255, 0, 0, 0])).kind = .switched ∧
    (OutputCfg.ofRec ([1, 2, 0, 5, 1, 1] ++ le16 6 ++ [255, 0, 0, 0])).composerRated ≠ 0 := by decide +kernel

/-- A publication waiting for a part with output 13 forced, its fault slot 50 naming a fault when `v` is not 0. -/
def forcedPart (v : Int) : State :=
  let s := withFresh 50 v (withRec .outputs 13 ([1, 0, 3, 0, 0, 2] ++ le16 60 ++ [50, 0, 0, 0]) (fill86 .onLine))
  { s with composer := { s.composer with outputs := s.composer.outputs.set 13 { forced := some 2 } } }

theorem witness_PublicationTaken :
    (forcedPart 0).composer.publications = (fill86 .onLine).composer.publications ∧
    (fill86 .onLine).composer.publications.length = 1 ∧
    gives .publicationTake (forcedPart 1) (fun t => (t.output 13).failed && (t.output 13).value == 0) = true ∧
    gives .publicationTake (forcedPart 0) (fun t => !(t.output 13).failed && (t.output 13).forced == some 2) = true ∧
    SupplyState.breaking.cut = true ∧ (outputCfg (forcedPart 0).tables 13).conditioning = true ∧
    ((fill86 .onLine).composer.outputs.length = 48 ∧ (fill86 .onLine).composer.climate = .active ∧
      (outputCfg (fill86 .onLine).tables 14).valid = true ∧
      gives .publicationTake (fill86 .onLine) (fun t => t.composer.outputs[14]? == some { value := 66 }) = true) := by
  decide +kernel

/-- Command frame 0 valid with send-on-change and a spacing of 10, its last put at time 0. -/
def framed (now : Nat) : State :=
  let s := withRec .commandFrames 0 ([0x23, 0x00, 0x02, 0x01, 0x55] ++ le16 100 ++ [10] ++ List.replicate 24 0) live
  { s with
    now := now
    composer := { s.composer with
      schedules := s.composer.schedules.set 0 { periodTimer := some 1000, spacing := some 100, lastPut := some 0 } } }

theorem witness_FramesPutOnTime :
    (framed 99).composer.schedules.length = 24 ∧ ((framed 99).schedule 0).periodTimer = some 1000 ∧
    ((framed 99).schedule 0).spacing = some 100 ∧ (frameCfg (framed 99).tables 0).valid = true ∧
    (frameCfg (framed 99).tables 0).sendOnChange = true ∧ (framed 99).now < 0 + 10 * (frameCfg (framed 99).tables 0).spacing ∧
    0 + 10 * (frameCfg (framed 100).tables 0).spacing ≤ (framed 100).now ∧
    ((framed 99).schedule 0).lastSent ≠ some (buildContent (framed 99) 0) := by decide +kernel

/-! Override stack -/

theorem witness_DeskRequestsCarriedOut :
    (desk [1, 4]).overrides.climate = .active ∧ (desk [1, 4]).overrides.handOffs = [1, 4] :: [] ∧
    (presetCfg (desk [1, 4]).tables 4).valid = true ∧
    4 ≤ ((desk [1, 4]).overrides.entries.filter fun e => e.preset != 4).length ∧
    ((desk [1, 0]).overrides.entries.filter fun e => e.preset != 0).length < 4 ∧
    (∃ e ∈ (desk [3, 2]).overrides.entries, e.preset = 2) := by decide +kernel

theorem witness_DeskRequestsRejected :
    parking.overrides.climate = .active ∧ State.reset.overrides.climate = .standby ∧ (4 : Nat) < (5 : Byte).toNat ∧
    (8 : Nat) ≤ (8 : Byte).toNat ∧ (presetCfg (desk [1, 7]).tables 7).valid = false ∧ live.overrides.entries = [] ∧
    (∀ e ∈ (desk [3, 5]).overrides.entries, e.preset ≠ 5) := by decide +kernel

theorem witness_LifetimesAndEffectiveOverride :
    ((desk []).overrides.entries.find? fun x => x.preset == 3) = some ⟨3, some 150000⟩ := by decide +kernel

/-! Management -/

theorem witness_ReadsAnswered :
    (asked [1, 0, 0, 0] live).mgmt.captured = .request (1 :: 0 :: 0 :: 0 :: []) :: [] ∧ live.mgmt.switch = none ∧
    TableId.ofNumber 0 = none ∧ TableId.ofNumber 13 = some .globals ∧ TableId.globals.count ≤ 1 ∧
    TableId.globals.size ≤ 48 ∧ 47 < TableId.globals.size ∧
    (objectCount 9 = some 4 ∧ (stateItem live 9 3 2).isSome = true ∧ (stateItem live 9 4 2).isSome = true) ∧
    (stateItem live 9 3 3 = none ∧ stateItem live 10 0 0 = none) ∧
    (asked [2, 9, 3, 2] live).mgmt.captured = .request (2 :: 9 :: 3 :: 2 :: []) :: [] ∧
    (imaged [] none).image.signed = true ∧ live.image.signed = false := by
  decide +kernel

theorem witness_LoadBeginsAndAborts :
    (asked [3, 12, 2, 3] live).mgmt.captured = .request (3 :: 12 :: 2 :: 3 :: []) :: [] ∧ live.mgmt.store = none ∧
    live.mgmt.load ≠ .loading ∧ load108.mgmt.load = .loading ∧ TableId.ofNumber 12 = some .presets ∧
    (5 + 3 ≤ TableId.presets.count ∧ TableId.presets.count < 6 + 3) ∧
    (asked [5] live).mgmt.captured = .request (5 :: []) :: [] := by decide +kernel

theorem witness_LoadDataTaken :
    load108.mgmt.captured = .loadData (3 :: [1, 2, 3, 4, 5, 6, 7]) :: [] ∧ load108.mgmt.load = .loading ∧
    load108.mgmt.window = some ⟨.presets, 2, 3⟩ ∧ (3 : Byte).toNat = load108.mgmt.expected ∧
    (4 : Byte).toNat ≠ load108.mgmt.expected ∧
    3 * 8 ≤ ((load108.mgmt.buffer ++ [1, 2, 3]).take (3 * 8)).length ∧
    ((load108.mgmt.buffer ++ [1, 2]).take (3 * 8)).length < 3 * 8 ∧ load108.mgmt.timer = some 500 ∧
    live.mgmt.load ≠ .loading := by decide +kernel

/-- A COMPLETE window of one table's first record, its default record loaded, and its ACTIVATE captured. -/
def windowed (k : TableId) : State :=
  asked [4, BitVec.ofNat 8 k.number] { live with mgmt := { live.mgmt with
    load := .complete, window := some ⟨k, 0, 1⟩, buffer := k.defaultRecord } }

theorem witness_ActivateReplacesWindow_tables (k : TableId) :
    (windowed k).mgmt.captured = .request (4 :: BitVec.ofNat 8 k.number :: []) :: [] ∧
    (windowed k).mgmt.switch = none ∧ (windowed k).mgmt.store = none ∧
    (BitVec.ofNat 8 k.number).toNat = k.number ∧ (windowed k).mgmt.load = .complete ∧
    (windowed k).mgmt.window = some ⟨k, 0, 1⟩ ∧
    validTable k (mergedTable ((windowed k).tables.get k) ⟨k, 0, 1⟩ (windowed k).mgmt.buffer) = true := by
  cases k <;> decide +kernel

theorem witness_ActivateReplacesWindow :
    (0 : Byte).toNat = 0 ∧ 13 < (14 : Byte).toNat ∧
    (full108 [4, 12]).mgmt.captured = .request (4 :: 12 :: []) :: [] ∧ (full108 [4, 12]).mgmt.switch = none ∧
    (full108 [4, 12]).mgmt.store = none ∧ (full108 [4, 12]).mgmt.load = .complete ∧
    (full108 [4, 12]).mgmt.window = some ⟨.presets, 2, 3⟩ ∧ TableId.ofNumber 10 = some .outputs ∧
    validTable .presets (mergedTable (live.tables.get .presets) ⟨.presets, 2, 3⟩ (List.replicate 24 0)) = true ∧
    validTable .globals [[1, 0]] = false ∧ live.mgmt.load ≠ .complete := by decide +kernel

theorem witness_StoreWritesImage :
    (asked [6, 127] live).mgmt.captured = .request (6 :: 127 :: []) :: [] ∧ (127 : Byte).toNat < 128 ∧
    128 ≤ (128 : Byte).toNat ∧ (0 : Byte).toNat = 0 ∧ load108.mgmt.load = .loading ∧
    (imaged [] (some ⟨32, some 800⟩)).mgmt.store = some ⟨32, some 800⟩ ∧ ¬(800 : Nat) < 800 ∧ (800 : Nat) < 801 ∧
    (some StoreStep.writeTables : Option StoreStep) ≠ none := by decide +kernel

theorem witness_OutputsAndPeriodsSet :
    (asked [7, 13, 3, 0] bus).mgmt.captured = .request (7 :: 13 :: 3 :: 0 :: []) :: [] ∧ bus.mgmt.switch = none ∧
    bus.mgmt.store = none ∧ (outputCfg bus.tables 13).valid = true ∧ 3 ≤ (outputCfg bus.tables 13).kind.full ∧
    (outputCfg bus.tables 13).kind.full < 4 ∧ (outputCfg bus.tables 0).valid = false ∧
    (48 : Byte).toNat ≠ 255 ∧ (frameCfg (framed 0).tables 0).valid = true ∧ (frameCfg (framed 0).tables 1).valid = false ∧
    (asked [9, 0, 0xE8, 3, 0] bus).mgmt.captured = .request (9 :: 0 :: 0xE8 :: 3 :: 0 :: []) :: [] := by decide +kernel

theorem witness_CountersAndFlagsCleared :
    (asked [10, 1, 0, 0] State.reset).mgmt.captured = .request (10 :: 1 :: 0 :: 0 :: []) :: [] ∧
    State.reset.mgmt.switch = none ∧ State.reset.mgmt.store = none ∧
    State.reset.mgmt.flags &&& 1 ≠ 0 ∧ live.mgmt.flags &&& 1 = 0 ∧
    State.reset.bp.outcome .urgent .eventReport ≠ .dropped ∧ urgentFull.outcome .urgent .eventReport = .dropped ∧
    2 < (3 : Byte).toNat ∧ (2 : Byte).toNat ≤ 2 := by decide +kernel

/-- A pending switch, with its reply on offer at BP. -/
def switching (k : SwitchKind) (lost : Bool) : State :=
  { live with
    bp := { control := [queued 0x5C1 (.reply true)], offer := some ⟨.control, queued 0x5C1 (.reply true)⟩ }
    mgmt := { live.mgmt with switch := some ⟨k, some 100, lost⟩ } }

/-- NEW MB pending with MB 600h in the live record, and a READ RECORD of it captured. -/
def newBase : State := asked [1, 13, 0, 0] (withGlobals 0 (le16 0x600) (switching .newMb false))

/-- R162, R171: it is answered BUSY, on the base still in force; R32: it shows the new base in bytes 2 and 3. -/
theorem test_read_record_new_mb : gives .readRecord newBase (fun t =>
    (t.bp.control.drop 1).map (fun q => (q.frame.ident, q.frame.data.take 4)) == [((data 0x5C1 []).ident, [1, 6, 0x00, 0x06])]) := by decide +kernel

theorem witness_PendingSwitchCarriedOut :
    (asked [15] live).mgmt.captured = .request (15 :: []) :: [] ∧
    (switching .reset false).bp.offer = some ⟨.control, queued 0x5C1 (.reply true)⟩ ∧
    (queued 0x5C1 (.reply true)).origin = .reply true ∧
    (switching .newMb true).mgmt.switch = some ⟨.newMb, some 100, true⟩ ∧
    (asked [15] live).mgmt.store = none ∧
    256 ≤ ({ (switching .reset false).bp with tec := 248 }).tec + 8 ∧ ¬(100 : Nat) ≤ 99 ∧ (100 : Nat) ≤ 100 := by
  decide +kernel

theorem witness_RequestsTurnedAway :
    (asked [2, 0] live).mgmt.captured = .request [2, 0] :: [] ∧ wellFormedRequest [2, 0] = false ∧
    wellFormedRequest [] = false ∧ wellFormedRequest [16, 0] = false ∧ wellFormedRequest [5] = true ∧
    (switching .reset false).mgmt.switch = some ⟨.reset, some 100, false⟩ ∧
    (switching .newMb false).mgmt.switch = some ⟨.newMb, some 100, false⟩ ∧
    newBase.mgmt.captured = .request [1, 13, 0, 0] :: [] ∧ newBase.mgmt.switch = some ⟨.newMb, some 100, false⟩ ∧
    TableId.ofNumber 13 = some .globals ∧ TableId.globals.count = 1 ∧ TableId.globals.size = 48 ∧
    TableId.ofNumber 14 = none ∧
    (imaged [] (some ⟨32, some 800⟩)).mgmt.store.isSome = true := by
  decide +kernel

end Sys2Proof.Machine.Tests
end

section
/-! PROOFS. Signal bindings and the sample store: where a field's bits lie (R36, R37) and what a slot reads as (R45, R46). -/

namespace Sys2Proof.Machine

/-! ### Bits of a HIGH-FIRST field (R37) -/

/-- A frame bit's place in the order in which a HIGH-FIRST field takes the frame's bits, from bit 7 of byte 0 on; and, the
same map again, the frame bit at such a place. -/
def highFirstPlace (i : Nat) : Nat := 8 * (i / 8) + (7 - i % 8)

@[simp] theorem highFirstPlace_highFirstPlace (i : Nat) : highFirstPlace (highFirstPlace i) = i := by
  unfold highFirstPlace
  omega

/-- The bit that follows is one place on: within the byte, and from bit 0 to bit 7 of the next byte. -/
theorem highFirstPlace_nextHighFirst (i : Nat) : highFirstPlace (nextHighFirst i) = highFirstPlace i + 1 := by
  unfold highFirstPlace nextHighFirst
  split <;> omega

@[simp] theorem length_highFirstBits (b len : Nat) : (highFirstBits b len).length = len := by
  induction len generalizing b with
  | zero => rfl
  | succ len ih => simp [highFirstBits, ih]

/-- A HIGH-FIRST field's bits lie at consecutive places from its start bit's on. -/
theorem getElem?_highFirstBits (b : Nat) {j len : Nat} (hj : j < len) :
    (highFirstBits b len)[j]? = some (highFirstPlace (highFirstPlace b + j)) := by
  induction len generalizing b j with
  | zero => omega
  | succ len ih =>
    cases j with
    | zero => simp [highFirstBits]
    | succ j =>
      calc (highFirstBits b (len + 1))[j + 1]?
          = (highFirstBits (nextHighFirst b) len)[j]? := by simp [highFirstBits]
        _ = some (highFirstPlace (highFirstPlace (nextHighFirst b) + j)) := ih _ (by omega)
        _ = some (highFirstPlace (highFirstPlace b + (j + 1))) := by
          rw [highFirstPlace_nextHighFirst, Nat.add_assoc, Nat.add_comm 1 j]

/-! ### Bits of a binding's field (R36 to R38) -/

theorem Binding.fieldBits_of_highFirst {b : Binding} (h : b.highFirst = true) :
    b.fieldBits = highFirstBits b.startBit b.length := by
  simp [Binding.fieldBits, h]

theorem Binding.fieldBits_of_lowFirst {b : Binding} (h : b.highFirst = false) :
    b.fieldBits = ((List.range b.length).map (b.startBit + ·)).reverse := by
  simp [Binding.fieldBits, h]

@[simp] theorem Binding.length_fieldBits (b : Binding) : b.fieldBits.length = b.length := by
  cases h : b.highFirst with
  | true => simp [Binding.fieldBits_of_highFirst h]
  | false => simp [Binding.fieldBits_of_lowFirst h]

theorem Binding.getElem?_fieldBits_of_lowFirst {b : Binding} (h : b.highFirst = false) {j : Nat} (hj : j < b.length) :
    b.fieldBits[j]? = some (b.startBit + (b.length - 1 - j)) := by
  have hk : b.length - 1 - j < b.length := by omega
  rw [Binding.fieldBits_of_lowFirst h, List.getElem?_reverse (by simpa using hj)]
  simp [hk]

theorem Binding.getElem?_fieldBits_of_highFirst {b : Binding} (h : b.highFirst = true) {j : Nat} (hj : j < b.length) :
    b.fieldBits[j]? = some (highFirstPlace (highFirstPlace b.startBit + j)) := by
  rw [Binding.fieldBits_of_highFirst h, getElem?_highFirstBits _ hj]

/-- R38: one bit beyond frame bit 63, or in a byte that the frame does not carry, and the field does not fit. -/
theorem Binding.fits_eq_false_iff (b : Binding) (data : List Byte) :
    b.fits data = false ↔ ∃ i ∈ b.fieldBits, 64 ≤ i ∨ data.length ≤ i / 8 := by
  have outside (i : Nat) : ¬(i / 8 < data.length ∧ i < 64) ↔ 64 ≤ i ∨ data.length ≤ i / 8 := by omega
  simp only [Binding.fits, List.all_eq_false, decide_eq_true_eq, outside]

/-- Settles O28: a LOW-FIRST field is a run of frame bits read downward, a HIGH-FIRST field a run of places. -/
theorem fieldBitsLocated : Obligations.FieldBitsLocated := by
  intro b data
  refine ⟨b.length_fieldBits, fun j hj h => Binding.getElem?_fieldBits_of_lowFirst h hj,
    fun j hj h => Binding.getElem?_fieldBits_of_highFirst h hj, fun i hi hout => ?_⟩
  exact (b.fits_eq_false_iff data).2 ⟨i, hi, hout⟩

/-! ### Reading a slot (R45, R46) -/

/-- The policy byte names HOLD by 0 and SUBSTITUTE by 2; every other coding is FALLBACK. -/
theorem SlotCfg.policy_ofRec (r : Rec) : (SlotCfg.ofRec r).policy =
    (if u8 r 1 = 0 then .hold else if u8 r 1 = 2 then .substitute else .fallback) := by
  by_cases h0 : u8 r 1 = 0
  · simp only [SlotCfg.ofRec, h0, if_true]
  · by_cases h2 : u8 r 1 = 2
    · simp only [SlotCfg.ofRec, h2, if_true, if_neg (show ¬(2 = 0) by decide)]
    · simp only [SlotCfg.ofRec, h0, h2, if_false]

theorem SlotLive.good_of_lastGood {l : SlotLive} {v : Int} (h : l.lastGood = some v) (c : SlotCfg) : l.good c = v := by
  simp [SlotLive.good, h]

/-- Neither NEVER nor FRESH: the two states in which a slot's policy says what readers get. -/
def SlotLive.Lapsed (l : SlotLive) : Prop := l.state = .stale ∨ l.state = .implausible

section
variable {t : Tables} {slots : List SlotLive} {i : Nat}

theorem effective_of_never (h : (slots.getD i {}).state = .never) :
    effective t slots (some i) = ((slotCfg t i).fallback, .none) := by
  simp only [effective, h]

theorem effective_of_fresh (h : (slots.getD i {}).state = .fresh) :
    effective t slots (some i) = ((slots.getD i {}).good (slotCfg t i), .good) := by
  simp only [effective, h]

theorem effective_of_hold (h : (slots.getD i {}).Lapsed) (hp : (slotCfg t i).policy = .hold) :
    effective t slots (some i) =
      (slots.getD i {}).lastGood.elim ((slotCfg t i).fallback, .none) fun v => (v, .degraded) := by
  cases hg : (slots.getD i {}).lastGood with
  | none => rcases h with h | h <;> simp only [effective, h, hp, hg, Option.elim_none]
  | some v => rcases h with h | h <;> simp only [effective, h, hp, hg, Option.elim_some]

theorem effective_of_fallback (h : (slots.getD i {}).Lapsed) (hp : (slotCfg t i).policy = .fallback) :
    effective t slots (some i) = ((slotCfg t i).fallback, .none) := by
  rcases h with h | h <;> simp only [effective, h, hp]

/-- R46: only the substitute's own state and last good value are read, never the substitute's policy. -/
theorem effective_of_substitute (h : (slots.getD i {}).Lapsed) (hp : (slotCfg t i).policy = .substitute) :
    effective t slots (some i) = (slotCfg t i).substitute.elim ((slotCfg t i).fallback, .none) fun j =>
      if (slots.getD j {}).state = .fresh then ((slots.getD j {}).good (slotCfg t j), .degraded)
      else ((slotCfg t i).fallback, .none) := by
  cases hs : (slotCfg t i).substitute with
  | none => rcases h with h | h <;> simp only [effective, h, hp, hs, Option.elim_none]
  | some j => rcases h with h | h <;> simp only [effective, h, hp, hs, Option.elim_some]

end

/-- Settles O32, state by state and, for a lapsed slot, policy by policy. -/
theorem effectiveValueRead : Obligations.EffectiveValueRead := by
  refine ⟨SlotCfg.policy_ofRec, fun t slots i => ⟨effective_of_never, ?fresh, ?holdPresent, ?holdAbsent,
    effective_of_fallback, ?substituteFresh, ?substituteNotFresh, ?substituteAbsent⟩⟩
  case fresh =>
    intro v h hv
    rw [effective_of_fresh h, SlotLive.good_of_lastGood hv]
  case holdPresent =>
    intro v h hp hv
    rw [effective_of_hold h hp, hv, Option.elim_some]
  case holdAbsent =>
    intro h hp hv
    rw [effective_of_hold h hp, hv, Option.elim_none]
  case substituteFresh =>
    intro j v h hp hs hf hv
    rw [effective_of_substitute h hp, hs, Option.elim_some, if_pos hf, SlotLive.good_of_lastGood hv]
  case substituteNotFresh =>
    intro j h hp hs hf
    rw [effective_of_substitute h hp, hs, Option.elim_some, if_neg hf]
  case substituteAbsent =>
    intro h hp hs
    rw [effective_of_substitute h hp, hs, Option.elim_none]

end Sys2Proof.Machine
end

section
/-! PROOFS. What each command can change: the parts of the state that the invariants speak of, said once for every operation
and every command, so that an invariant's proof looks only at the commands that change a part it reads. -/

namespace Sys2Proof.Machine

-- One theorem at a time: a thread for each of them at once would not fit into the checker's memory bound.
set_option Elab.async false

/-! ### Conditions -/

theorem ite_iff {α : Type} {b c : Prop} [Decidable b] [Decidable c] {x y u v : α} (h : b ↔ c) (yes : x = u) (no : y = v) :
    (if b then x else y) = if c then u else v :=
  ite_congr (propext h) (fun _ => yes) fun _ => no

theorem ite_both {α : Type} {b c : Prop} [Decidable b] [Decidable c] (x y : α) :
    (if b ∧ c then x else y) = if b then (if c then x else y) else y := by
  by_cases h : b
  · simp only [h, true_and, if_true]
  · simp only [h, false_and, if_false]

/-! ### Parts of the state -/

/-- One port becomes another by puts alone. -/
inductive Port.Puts (p : Port) : Port → Prop where
  | refl : p.Puts p
  | andPut {q : Port} (h : p.Puts q) (c : TxClass) (x : QueuedFrame) : p.Puts (q.put c x)

theorem Port.Puts.put (p : Port) (c : TxClass) (x : QueuedFrame) : p.Puts (p.put c x) := Port.Puts.refl.andPut c x

theorem Port.Puts.trans {p q r : Port} (h : p.Puts q) (k : q.Puts r) : p.Puts r := by
  induction k with
  | refl => exact h
  | andPut _ c x ih => exact ih.andPut c x

/-- A part of the state that an invariant can depend on; `ports` is what puts leave of both ports, `lengths` how many live
records each block has. -/
inductive Part where
  | queue | phase | tables | image | bp | fp | ports | lengths | slots | zones | doors | channels | supply | ceiling | lastPub
  | publications | copy | outputs | schedules | entries | stackClimate | load
  deriving DecidableEq

/-- A change from one state to another keeps a part: both agree in it, or, for `ports`, only puts were made. -/
def Part.Same : Part → State → State → Prop
  | .queue, s, t => t.pending = s.pending
  | .phase, s, t => t.phase = s.phase
  | .tables, s, t => t.tables = s.tables
  | .image, s, t => t.image = s.image
  | .bp, s, t => t.bp = s.bp
  | .fp, s, t => t.fp = s.fp
  | .ports, s, t => s.bp.Puts t.bp ∧ s.fp.Puts t.fp
  | .lengths, s, t => t.slots.length = s.slots.length ∧ t.regulator.zones.length = s.regulator.zones.length ∧
      t.doors.doors.length = s.doors.doors.length ∧ t.screens.channels.length = s.screens.channels.length ∧
      t.composer.outputs.length = s.composer.outputs.length ∧
      t.composer.schedules.length = s.composer.schedules.length
  | .slots, s, t => t.slots = s.slots
  | .zones, s, t => t.regulator.zones = s.regulator.zones
  | .doors, s, t => t.doors.doors = s.doors.doors
  | .channels, s, t => t.screens.channels = s.screens.channels
  | .supply, s, t => t.supply.state = s.supply.state ∧ t.supply.resumeDelay = s.supply.resumeDelay ∧
      t.supply.longBreak = s.supply.longBreak
  | .ceiling, s, t => t.supply.ceiling = s.supply.ceiling
  | .lastPub, s, t => t.supply.lastPub = s.supply.lastPub
  | .publications, s, t => t.composer.publications = s.composer.publications
  | .copy, s, t => t.composer.copy = s.composer.copy
  | .outputs, s, t => t.composer.outputs = s.composer.outputs
  | .schedules, s, t => t.composer.schedules = s.composer.schedules
  | .entries, s, t => t.overrides.entries = s.overrides.entries
  | .stackClimate, s, t => t.overrides.climate = s.overrides.climate
  | .load, s, t => t.mgmt.load = s.mgmt.load ∧ t.mgmt.window = s.mgmt.window ∧ t.mgmt.buffer = s.mgmt.buffer ∧
      t.mgmt.expected = s.mgmt.expected ∧ t.mgmt.timer = s.mgmt.timer

/-- Nothing but the given parts differs between two states. -/
def Only (ps : List Part) (s t : State) : Prop := ∀ p, p ∉ ps → p.Same s t

theorem Part.same_refl (p : Part) (s : State) : p.Same s s := by
  cases p with
  | ports => exact ⟨.refl, .refl⟩
  | _ => simp [Part.Same]

theorem Part.Same.trans {p : Part} {s t u : State} (h : p.Same s t) (k : p.Same t u) : p.Same s u := by
  cases p with
  | ports => exact ⟨h.1.trans k.1, h.2.trans k.2⟩
  | _ => simp_all [Part.Same]

theorem Only.refl (ps : List Part) (s : State) : Only ps s s := fun p _ => p.same_refl s

theorem Only.trans {ps : List Part} {s t u : State} (h : Only ps s t) (k : Only ps t u) : Only ps s u :=
  fun p hp => (h p hp).trans (k p hp)

theorem Only.mono {ps qs : List Part} {s t : State} (h : Only ps s t) (hq : ps ⊆ qs) : Only qs s t :=
  fun p hp => h p fun hm => hp (hq hm)

/-- A change to `ps` and then one to `qs`, both within `rs`. -/
theorem Only.andThen {ps qs rs : List Part} {s t u : State} (h : Only ps s t) (k : Only qs t u)
    (hp : ps ⊆ rs := by decide) (hq : qs ⊆ rs := by decide) : Only rs s u :=
  (h.mono hp).trans (k.mono hq)

theorem Only.ite {ps : List Part} {c : Prop} [Decidable c] {s t u : State} (h : Only ps s t) (k : Only ps s u) :
    Only ps s (if c then t else u) := by
  split
  · exact h
  · exact k

theorem Only.foldl {α : Type} {ps : List Part} {f : State → α → State} (hf : ∀ s a, Only ps s (f s a)) (as : List α)
    (s : State) : Only ps s (as.foldl f s) := by
  induction as generalizing s with
  | nil => exact Only.refl _ _
  | cons a as ih => exact (hf s a).trans (ih _)

/-! ### The shared operations -/

theorem setPort_only (s : State) (p : PortId) (x : Port) : Only [.bp, .fp, .ports] s (s.setPort p x) := by
  intro q hq; cases q <;> simp_all [Part.Same]

theorem setNow_only (s : State) (x : Nat) : Only [] s (s.setNow x) := by
  intro q _; cases q <;> simp [Part.Same, Port.Puts.refl]

theorem advanceTo_only (s : State) (d : Nat) : Only [] s (s.advanceTo d) := setNow_only s _

theorem setFreeIndex_only (s : State) (x : Nat) : Only [] s (s.setFreeIndex x) := by
  intro q _; cases q <;> simp [Part.Same, Port.Puts.refl]

theorem setBinder_only (s : State) (x : List HandOff) : Only [] s (s.setBinder x) := by
  intro q _; cases q <;> simp [Part.Same, Port.Puts.refl]

theorem setClassifier_only (s : State) (x : Classifier) : Only [] s (s.setClassifier x) := by
  intro q _; cases q <;> simp [Part.Same, Port.Puts.refl]

theorem setImage_only (s : State) (x : Image) : Only [.image] s (s.setImage x) := by
  intro q hq; cases q <;> simp_all [Part.Same, Port.Puts.refl]

theorem setTables_only (s : State) (x : Tables) : Only [.tables] s (s.setTables x) := by
  intro q hq; cases q <;> simp_all [Part.Same, Port.Puts.refl]

theorem setPending_only (s : State) (x : List Instr) : Only [.queue] s (s.setPending x) := by
  intro q hq; cases q <;> simp_all [Part.Same, Port.Puts.refl]

theorem setSlot_only (s : State) (i : Nat) (x : SlotLive) : Only [.slots] s (s.setSlot i x) := by
  intro q hq; cases q <;> simp_all [Part.Same, Port.Puts.refl, State.setSlot]

theorem setZone_only (s : State) (z : Nat) (x : ZoneLive) : Only [.zones] s (s.setZone z x) := by
  intro q hq; cases q <;> simp_all [Part.Same, Port.Puts.refl, State.setZone]

theorem setDoor_only (s : State) (d : Nat) (x : DoorLive) : Only [.doors] s (s.setDoor d x) := by
  intro q hq; cases q <;> simp_all [Part.Same, Port.Puts.refl, State.setDoor]

theorem setScreen_only (s : State) (c : Nat) (x : ScreenLive) : Only [.channels] s (s.setScreen c x) := by
  intro q hq; cases q <;> simp_all [Part.Same, Port.Puts.refl, State.setScreen]

theorem setOutput_only (s : State) (k : Nat) (x : OutputLive) : Only [.outputs] s (s.setOutput k x) := by
  intro q hq; cases q <;> simp_all [Part.Same, Port.Puts.refl, State.setOutput]

theorem setSchedule_only (s : State) (n : Nat) (x : Schedule) : Only [.schedules] s (s.setSchedule n x) := by
  intro q hq; cases q <;> simp_all [Part.Same, Port.Puts.refl, State.setSchedule]

theorem mapOutputs_only (f : Nat → OutputLive → OutputLive) (s : State) : Only [.outputs] s (mapOutputs f s) := by
  intro q hq; cases q <;> simp_all [Part.Same, Port.Puts.refl, mapOutputs]

theorem setEntries_only (es : List StackEntry) (s : State) : Only [.entries] s (setEntries es s) := by
  intro q hq; cases q <;> simp_all [Part.Same, Port.Puts.refl, setEntries]

theorem setSupply_only (s : State) (u : Supply) : Only [.supply, .ceiling, .lastPub] s (s.setSupply u) := by
  intro q hq; cases q <;> simp_all [Part.Same, Port.Puts.refl]

theorem setMgmt_only (s : State) (m : Management) : Only [.load] s (s.setMgmt m) := by
  intro q hq; cases q <;> simp_all [Part.Same, Port.Puts.refl]

theorem dropCaptured_only (rest : List Captured) (s : State) : Only [] s (dropCaptured rest s) := by
  intro q _; cases q <;> simp [Part.Same, Port.Puts.refl, dropCaptured]

theorem dropSupplyNotice_only (rest : List SupplyNotice) (s : State) : Only [] s (dropSupplyNotice rest s) := by
  intro q _; cases q <;> simp [Part.Same, Port.Puts.refl, dropSupplyNotice]

/-- A report is put once, or twice when it sets TX_DROP. -/
theorem reportPut_puts (s : State) (bp : Port) (flags : BitVec 22) : bp.Puts (reportPut s bp flags).1 := by
  rcases reportPut_cases s bp flags with ⟨-, e⟩ | ⟨-, e | e | e⟩ <;> rw [e]
  · exact .put _ _ _
  · exact .put _ _ _
  · exact .put _ _ _
  · exact (Port.Puts.put _ _ _).trans (Port.Puts.put _ _ _)

theorem raiseWhen_puts (c : Bool) (f : Flag) (s : State) : s.bp.Puts (raiseWhen c f s).bp := by
  rcases raiseWhen_cases c f s with ⟨-, e⟩ | ⟨-, -, -, e⟩ | ⟨-, -, -, e⟩ <;> rw [e]
  · exact .refl
  · exact .refl
  · exact reportPut_puts _ _ _

theorem raiseWhen_only (c : Bool) (f : Flag) (s : State) : Only [.bp] s (raiseWhen c f s) := by
  intro q hq
  cases q with
  | ports => exact ⟨raiseWhen_puts c f s, .refl⟩
  | _ => simp_all [Part.Same, raiseWhen]

theorem raise_only (f : Flag) (s : State) : Only [.bp] s (raise f s) := raiseWhen_only _ _ _

theorem reportWhen_only (c : Bool) (s : State) : Only [.bp] s (reportWhen c s) := by
  intro q hq
  cases q with
  | ports =>
    refine ⟨?_, .refl⟩
    cases c
    · exact .refl
    · exact reportPut_puts _ _ _
  | _ => simp_all [Part.Same, reportWhen]

theorem putFrame_only (p : PortId) (c : TxClass) (x : QueuedFrame) (s : State) :
    Only [.bp, .fp] s (putFrame p c x s) := by
  have put : Only [.bp, .fp] s (s.setPort p ((s.port p).put c x)) := by
    intro q hq
    by_cases hports : q = .ports
    · subst hports
      cases p
      · exact ⟨.put _ _ _, .refl⟩
      · exact ⟨.refl, .put _ _ _⟩
    · exact setPort_only _ _ _ q (by simp_all)
  exact put.trans ((raiseWhen_only _ _ _).mono (by decide))

theorem reply_only (code : Nat) (st : Status) (s : State) : Only [.bp, .fp] s (reply code st s) := putFrame_only _ _ _ _

theorem replyWith_only (code : Nat) (st : Status) (payload : List Byte) (s : State) :
    Only [.bp, .fp] s (replyWith code st payload s) := putFrame_only _ _ _ _

theorem countLengthShort_only (p : PortId) (s : State) : Only [.bp, .fp, .ports] s (countLengthShort p s) :=
  (setPort_only _ _ _).andThen (raise_only _ _)

theorem capture_only (c : Captured) (s : State) : Only [] s (capture c s) := by
  intro q _; cases q <;> simp [Part.Same, Port.Puts.refl, capture]

theorem handOff_only (p : PortId) (f : Frame) (e : FrameEntry) (s : State) : Only [] s (handOff p f e s) := by
  intro q _; cases q <;> simp [Part.Same, Port.Puts.refl, handOff]

theorem takeFrame_only (p : PortId) (rest : List Frame) (s : State) : Only [.bp, .fp, .ports] s (takeFrame p rest s) :=
  (setPort_only _ _ _).andThen (setClassifier_only _ _)

theorem sendNotices_only (i : Nat) (v : Int) (c : Bool) (s : State) : Only [.doors] s (sendNotices i v c s) := by
  intro q hq; cases q <;> simp_all [Part.Same, Port.Puts.refl, sendNotices]

theorem leaveNotice_only (c : Bool) (i : Nat) (s : State) : Only [] s (leaveNotice c i s) := by
  intro q _; cases q <;> simp [Part.Same, Port.Puts.refl, leaveNotice]

theorem sendClimate_only (b : Bool) (c : Climate) (s : State) : Only [] s (sendClimate b c s) := by
  intro q _; cases q <;> simp [Part.Same, Port.Puts.refl, sendClimate]

/-- An expiry changes the clock, which is no part, and what its event changes. -/
theorem onExpiry_only {ps : List Part} {k : State → State} (hk : ∀ s, Only ps s (k s)) {timer : Timer} {s t : State}
    (h : onExpiry timer k s = .next t) : Only ps s t := by
  rcases onExpiry_cases timer k s with ⟨-, e⟩ | ⟨d, -, e⟩ <;> obtain rfl := Host.Outcome.next.inj (e.symm.trans h)
  · exact Only.refl _ _
  · exact ((advanceTo_only s d).mono (by simp)).trans (hk _)

/-- A request changes what its service changes, and BP's queue and the flags by a BUSY reply. -/
theorem takeRequest_only {ps : List Part} {serve : List Byte → State → State} (hk : ∀ data s, Only ps s (serve data s))
    {code : Nat} {s t : State} (h : takeRequest code serve s = .next t) (hp : [.bp, .fp] ⊆ ps := by decide) :
    Only ps s t := by
  rcases takeRequest_cases code serve s with e | ⟨data, rest, -, -, -, ⟨-, e⟩ | ⟨-, e⟩⟩ <;>
    obtain rfl := Host.Outcome.next.inj (e.symm.trans h)
  · exact Only.refl _ _
  · exact (dropCaptured_only rest s).andThen (replyWith_only _ _ _ _) (by simp) hp
  · exact ((dropCaptured_only rest s).mono (by simp)).trans (hk _ _)

end Sys2Proof.Machine
end

section
/-! PROOFS. What each command's meaning can change, chapter by chapter. -/

namespace Sys2Proof.Machine

-- One theorem at a time: a thread for each of them at once would not fit into the checker's memory bound.
set_option Elab.async false

/-! ### Classifier and binder -/

theorem dispose_only (p : PortId) (f : Frame) (d : Disposition) (urgency : Nat) (s : State) :
    Only [.bp, .fp] s (dispose p f d urgency s) := by
  cases d with
  | forward => exact putFrame_only _ _ _ _
  | drop => exact Only.refl _ _
  | yield =>
    simp only [dispose]
    split
    · exact putFrame_only _ _ _ _
    · exact Only.refl _ _

theorem classifyEntry_only (p : PortId) (f : Frame) (e : FrameEntry) (s : State) :
    Only [.bp, .fp, .ports] s (classifyEntry p f e s) :=
  (((handOff_only p f e s).mono (by decide)).ite (countLengthShort_only p s)).trans
    ((dispose_only _ _ _ _ _).mono (by decide))

theorem classify_only (p : PortId) (f : Frame) (s : State) : Only [.bp, .fp, .ports] s (classify p f s) := by
  unfold classify
  split
  · refine ((capture_only _ s).mono (by decide)).ite (((capture_only _ s).mono (by decide)).ite ?_)
    split
    · exact classifyEntry_only _ _ _ _
    · exact (dispose_only _ _ _ _ _).mono (by decide)
  · exact (dispose_only _ _ _ _ _).mono (by decide)

theorem execFrameClassify_only {s t : State} (h : execFrameClassify s = .next t) : Only [.bp, .fp, .ports] s t := by
  unfold execFrameClassify at h
  split at h
  · split at h <;> obtain rfl := Host.Outcome.next.inj h
    · exact (takeFrame_only _ _ _).trans (classify_only _ _ _)
    · exact Only.refl _ _
  · obtain rfl := Host.Outcome.next.inj h
    exact Only.refl _ _

theorem writeSlot_only (i : Nat) (v : Int) (s : State) : Only [.bp, .slots, .doors] s (writeSlot i v s) :=
  Only.ite ((setSlot_only _ _ _).andThen (sendNotices_only _ _ _ _))
    (((setSlot_only _ _ _).andThen (raise_only _ _)).andThen (leaveNotice_only _ _ _) (ps := [.slots, .bp]))

theorem runBinding_only (h : HandOff) (s : State) (k : Nat) :
    Only [.bp, .fp, .ports, .slots, .doors] s (runBinding h s k) :=
  (Only.refl _ _).ite (((writeSlot_only _ _ _).mono (by decide)).ite ((countLengthShort_only _ _).mono (by decide)))

theorem execBinderRun_only {s t : State} (h : execBinderRun s = .next t) :
    Only [.bp, .fp, .ports, .slots, .doors] s t := by
  unfold execBinderRun at h
  split at h <;> obtain rfl := Host.Outcome.next.inj h
  · exact ((setBinder_only _ _).mono (by decide)).trans (Only.foldl (runBinding_only _) _ _)
  · exact Only.refl _ _

theorem staleSlot_only (i : Nat) (s : State) : Only [.bp, .slots] s (staleSlot i s) :=
  ((setSlot_only _ _ _).andThen (raise_only _ _) (rs := [.bp, .slots])).andThen (leaveNotice_only _ _ _)

/-! ### Zone regulator -/

theorem setRegulator_only (s : State) (x : Regulator) (h : x.zones.length = s.regulator.zones.length) :
    Only [.zones] s (s.setRegulator x) := by
  intro q hq; cases q <;> simp_all [Part.Same, Port.Puts.refl]

theorem zonesAtMode_length (t : Tables) (changed : Bool) (mode : VehicleMode) (zones : List ZoneLive) :
    (zonesAtMode t changed mode zones).length = zones.length := by simp [zonesAtMode]

theorem deriveClimate_only (m : Int) (s : State) : Only [.bp, .zones] s (deriveClimate m s) :=
  ((setRegulator_only s _ (zonesAtMode_length _ _ _ _)).andThen (raiseWhen_only _ _ _)
    (rs := [.bp, .zones])).andThen (sendClimate_only _ _ _)

theorem execVehicleModeNotice_only {s t : State} (h : execVehicleModeNotice s = .next t) : Only [.bp, .zones] s t := by
  unfold execVehicleModeNotice at h
  split at h <;> obtain rfl := Host.Outcome.next.inj h
  · rename_i rest _
    have dropped := setRegulator_only s { s.regulator with notices := rest } rfl
    exact dropped.andThen (deriveClimate_only _ _)
  · exact Only.refl _ _

theorem stepZone_only (z : Nat) (s : State) : Only [.bp, .zones] s (stepZone z s) := by
  unfold stepZone
  split
  · exact (setZone_only _ _ _).andThen (raiseWhen_only _ _ _)
  · exact (setZone_only _ _ _).mono (by decide)

theorem endHold_only (z : Nat) (s : State) : Only [.zones] s (endHold z s) := setZone_only _ _ _

/-! ### Door draft unit -/

theorem dropDoorNotice_only (d : Nat) (rest : List DoorNotice) (s : State) :
    Only [.doors] s (dropDoorNotice d rest s) := setDoor_only _ _ _

theorem execDoorOpenNotice_only {d : Fin 6} {s t : State} (h : execDoorOpenNotice d s = .next t) :
    Only [.doors] s t := by
  unfold execDoorOpenNotice at h
  split at h <;> obtain rfl := Host.Outcome.next.inj h
  · exact (dropDoorNotice_only _ _ _).trans (setDoor_only _ _ _)
  · exact Only.refl _ _

theorem execReleaseNotice_only {d : Fin 6} {s t : State} (h : execReleaseNotice d s = .next t) :
    Only [.doors] s t := by
  unfold execReleaseNotice at h
  split at h <;> obtain rfl := Host.Outcome.next.inj h
  · exact (dropDoorNotice_only _ _ _).trans (setDoor_only _ _ _)
  · exact Only.refl _ _

theorem signalLostEnds_only (d : Nat) (s : State) : Only [.bp, .doors] s (signalLostEnds d s) :=
  (setDoor_only _ _ _).andThen (raise_only _ _)

theorem setDoors_only (s : State) (x : DoorUnit) (h : x.doors.length = s.doors.doors.length) :
    Only [.doors] s (s.setDoors x) := by
  intro q hq; cases q <;> simp_all [Part.Same, Port.Puts.refl]

theorem execDoorClimateNotice_only {s t : State} (h : execDoorClimateNotice s = .next t) : Only [.doors] s t := by
  unfold execDoorClimateNotice at h
  split at h <;> obtain rfl := Host.Outcome.next.inj h
  · exact setDoors_only s _ (List.length_mapIdx)
  · exact Only.refl _ _

theorem periodDoor_only (d : Nat) (s : State) : Only [.doors] s (periodDoor d s) := setDoor_only _ _ _

theorem openTimerEnds_only (d : Nat) (s : State) : Only [.doors] s (openTimerEnds d s) := setDoor_only _ _ _

theorem runOnEnds_only (d : Nat) (s : State) : Only [.doors] s (runOnEnds d s) := setDoor_only _ _ _

/-! ### Screen unit -/

theorem evaluateScreen_only (c : Nat) (s : State) : Only [.bp, .channels] s (evaluateScreen c s) := by
  unfold evaluateScreen
  split
  · exact (setScreen_only _ _ _).andThen (raiseWhen_only _ _ _)
  · exact (setScreen_only _ _ _).mono (by decide)

theorem setScreens_only (s : State) (x : ScreenUnit) (h : x.channels.length = s.screens.channels.length) :
    Only [.channels] s (s.setScreens x) := by
  intro q hq; cases q <;> simp_all [Part.Same, Port.Puts.refl]

theorem execScreenClimateNotice_only {s t : State} (h : execScreenClimateNotice s = .next t) :
    Only [.channels] s t := by
  unfold execScreenClimateNotice at h
  split at h <;> obtain rfl := Host.Outcome.next.inj h
  · exact setScreens_only s _ (List.length_mapIdx)
  · exact Only.refl _ _

/-! ### Supply and budget unit -/

/-- The parts that an allocation changes. -/
abbrev Part.allocation : List Part := [.bp, .supply, .ceiling, .lastPub, .publications]

theorem publish_only (s : State) (p : Publication) : Only [.lastPub, .publications] s
    ((s.setSupply { s.supply with lastPub := p }).setComposer
      { s.composer with publications := s.composer.publications ++ [p] }) := by
  intro q hq; cases q <;> simp_all [Part.Same, Port.Puts.refl]

theorem allocate_only (ramp : Bool) (s : State) : Only Part.allocation s (allocate ramp s) := by
  have formed (u : Supply) (c : Bool) : Only Part.allocation s (raiseWhen c .budgetShort (s.setSupply u)) :=
    (setSupply_only _ _).andThen (raiseWhen_only _ _ _)
  exact (formed _ _).trans ((publish_only _ _).mono (by decide))

theorem enterBreak_only (s : State) : Only Part.allocation s (enterBreak s) :=
  ((setSupply_only _ _).andThen (raise_only _ _) (rs := Part.allocation)).trans (allocate_only _ _)

theorem enterResuming_only (s : State) : Only Part.allocation s (enterResuming s) :=
  (setSupply_only _ _).andThen (allocate_only _ _)

theorem enterOffWire_only (s : State) : Only Part.allocation s (enterOffWire s) :=
  (setSupply_only _ _).andThen (allocate_only _ _)

theorem enterHeld_only (s : State) : Only Part.allocation s (enterHeld s) :=
  ((setSupply_only _ _).andThen (raise_only _ _) (rs := Part.allocation)).trans (allocate_only _ _)

theorem lineDrops_only (s : State) : Only Part.allocation s (lineDrops s) := by
  unfold lineDrops
  split
  · exact (enterOffWire_only s).ite (enterBreak_only s)
  · exact enterBreak_only s
  · exact enterBreak_only s
  · exact (setSupply_only _ _).mono (by decide)
  · exact Only.refl _ _

theorem takeLineWrite_only (v : Int) (s : State) : Only Part.allocation s (takeLineWrite v s) := by
  have sampled : Only Part.allocation s (s.setSupply { s.supply with lastLine := some (lineSample v) }) :=
    (setSupply_only _ _).mono (by decide)
  unfold takeLineWrite
  refine sampled.trans ?_
  dsimp only
  split
  · exact (setSupply_only _ _).mono (by decide)
  · exact (lineDrops_only _).ite (Only.refl _ _)
  · exact (lineDrops_only _).ite (Only.refl _ _)
  · exact (lineDrops_only _).ite (Only.refl _ _)
  · exact Only.refl _ _

theorem takePoleChange_only (v : Int) (s : State) : Only Part.allocation s (takePoleChange v s) := by
  unfold takePoleChange
  dsimp only
  split
  · split
    · exact Only.refl _ _
    · exact enterOffWire_only s
  · split
    · exact (enterResuming_only s).ite (enterBreak_only s)
    · exact Only.refl _ _

theorem execLineWriteNotice_only {s t : State} (h : execLineWriteNotice s = .next t) : Only Part.allocation s t := by
  unfold execLineWriteNotice at h
  split at h <;> obtain rfl := Host.Outcome.next.inj h
  · exact ((dropSupplyNotice_only _ _).mono (by simp)).trans (takeLineWrite_only _ _)
  · exact Only.refl _ _

theorem execLineLeaveNotice_only {s t : State} (h : execLineLeaveNotice s = .next t) : Only Part.allocation s t := by
  unfold execLineLeaveNotice at h
  split at h <;> obtain rfl := Host.Outcome.next.inj h
  · exact ((dropSupplyNotice_only _ _).mono (by simp)).trans (lineDrops_only _)
  · exact Only.refl _ _

theorem execPoleChangeNotice_only {s t : State} (h : execPoleChangeNotice s = .next t) : Only Part.allocation s t := by
  unfold execPoleChangeNotice at h
  split at h <;> obtain rfl := Host.Outcome.next.inj h
  · exact ((dropSupplyNotice_only _ _).mono (by simp)).trans (takePoleChange_only _ _)
  · exact Only.refl _ _

theorem resumeDelayEnds_only (s : State) : Only Part.allocation s (resumeDelayEnds s) :=
  (enterResuming_only s).ite (enterHeld_only s)

theorem longBreakEnds_only (s : State) : Only Part.allocation s (longBreakEnds s) := by
  have lapsed : Only Part.allocation s (raise .longBreak (s.setSupply { s.supply with longBreak := none })) :=
    (setSupply_only _ _).andThen (raise_only _ _)
  exact lapsed.trans ((enterOffWire_only _).ite (Only.refl _ _))

theorem budgetTick_only (s : State) : Only Part.allocation s (budgetTick s) :=
  (setSupply_only _ _).andThen (allocate_only _ _)

/-! ### Output composer -/

theorem putCommandFrame_only (n : Nat) (s : State) : Only [.bp, .fp, .schedules] s (putCommandFrame n s) :=
  (putFrame_only _ _ _ _).andThen (setSchedule_only _ _ _)

theorem changeTest_only (s : State) (n : Nat) : Only [.bp, .fp, .schedules] s (changeTest s n) := by
  unfold changeTest
  dsimp only
  split
  · split
    · exact putCommandFrame_only _ _
    · exact (setSchedule_only _ _ _).mono (by decide)
  · exact Only.refl _ _

theorem changeTests_only (s : State) : Only [.bp, .fp, .schedules] s (changeTests s) := Only.foldl changeTest_only _ _

theorem restartHolds_only (p : Publication) (s : State) : Only [.zones] s (restartHolds p s) :=
  setRegulator_only s _ (List.length_mapIdx)

theorem readMarks_only (s : State) : Only [.bp, .outputs] s (readMarks s) :=
  (mapOutputs_only _ _).andThen (raiseWhen_only _ _ _)

theorem setComposer_only (s : State) (x : Composer) (ho : x.outputs.length = s.composer.outputs.length)
    (hs : x.schedules.length = s.composer.schedules.length) :
    Only [.publications, .copy, .outputs, .schedules] s (s.setComposer x) := by
  intro q hq; cases q <;> simp_all [Part.Same, Port.Puts.refl]

/-- The parts that a publication's taking changes. -/
abbrev Part.publication : List Part := [.bp, .fp, .zones, .publications, .copy, .outputs, .schedules]

theorem takePublication_only (p : Publication) (rest : List Publication) (s : State) :
    Only Part.publication s (takePublication p rest s) := by
  have taken : Only Part.publication s (s.setComposer { s.composer with copy := p, publications := rest }) :=
    (setComposer_only s { s.composer with copy := p, publications := rest } rfl rfl).mono (by decide)
  have held := taken.trans ((restartHolds_only p _).mono (by decide))
  have marked := held.trans ((readMarks_only _).mono (by decide))
  have formed := marked.trans ((mapOutputs_only _ _ : Only _ _ (formFRequests _)).mono (by decide))
  have filled := formed.trans ((mapOutputs_only _ _ : Only _ _ (fillAll _)).mono (by decide))
  exact filled.trans ((changeTests_only _).mono (by decide))

theorem execPublicationTake_only {s t : State} (h : execPublicationTake s = .next t) : Only Part.publication s t := by
  unfold execPublicationTake at h
  split at h <;> obtain rfl := Host.Outcome.next.inj h
  · exact takePublication_only _ _ _
  · exact Only.refl _ _

theorem composerTakesClimate_only (c : Climate) (rest : List Climate) (s : State) :
    Only [.outputs] s (composerTakesClimate c rest s) := by
  intro q hq; cases q <;> simp_all [Part.Same, Port.Puts.refl, composerTakesClimate]

theorem execComposerClimateNotice_only {s t : State} (h : execComposerClimateNotice s = .next t) :
    Only [.outputs] s t := by
  unfold execComposerClimateNotice at h
  split at h <;> obtain rfl := Host.Outcome.next.inj h
  · exact composerTakesClimate_only _ _ _
  · exact Only.refl _ _

theorem framePeriodEnds_only (n : Nat) (s : State) : Only [.bp, .fp, .schedules] s (framePeriodEnds n s) := by
  have restarted : Only [.bp, .fp, .schedules] s (restartPeriod n s) := (setSchedule_only _ _ _).mono (by decide)
  exact restarted.trans ((Only.refl _ _).ite (putCommandFrame_only _ _))

theorem spacingEnds_only (n : Nat) (s : State) : Only [.bp, .fp, .schedules] s (spacingEnds n s) := by
  have stopped : Only [.bp, .fp, .schedules] s (s.setSchedule n { s.schedule n with spacing := none }) :=
    (setSchedule_only _ _ _).mono (by decide)
  exact stopped.trans ((putCommandFrame_only _ _).ite (Only.refl _ _))

/-! ### Override stack -/

theorem dealDesk_only (data : List Byte) (s : State) : Only [.bp, .entries] s (dealDesk data s) := by
  have rejected : Only [.bp, .entries] s (rejectDesk s) := (raise_only _ _).mono (by decide)
  have replaced (es : List StackEntry) : Only [.bp, .entries] s (setEntries es s) :=
    (setEntries_only _ _).mono (by decide)
  unfold dealDesk
  split
  · exact rejected
  · split
    · exact Only.ite ((setEntries_only _ _).andThen (raiseWhen_only _ _ _)) rejected
    · exact (replaced _).ite rejected
    · unfold doPop
      split
      · exact replaced _
      · exact rejected
    · exact replaced _
    · exact rejected
    · exact rejected
    · exact rejected

theorem dropHandOff_only (rest : List (List Byte)) (s : State) :
    Only [] s (s.setOverrides { s.overrides with handOffs := rest }) := by
  intro q _; cases q <;> simp [Part.Same, Port.Puts.refl]

theorem takeDesk_only {isMine : List Byte → Bool} {s t : State} (h : takeDesk isMine s = .next t) :
    Only [.bp, .entries] s t := by
  rcases takeDesk_cases isMine s with e | ⟨data, rest, -, -, e⟩ <;> obtain rfl := Host.Outcome.next.inj (e.symm.trans h)
  · exact Only.refl _ _
  · exact ((dropHandOff_only rest s).mono (by simp)).trans (dealDesk_only _ _)

theorem execStackClimateNotice_only {s t : State} (h : execStackClimateNotice s = .next t) :
    Only [.entries, .stackClimate] s t := by
  unfold execStackClimateNotice at h
  split at h <;> obtain rfl := Host.Outcome.next.inj h
  · intro q hq; cases q <;> simp_all [Part.Same, Port.Puts.refl, stackTakesClimate]
  · exact Only.refl _ _

theorem lapse_only (p : Nat) (s : State) : Only [.entries] s (lapse p s) := setEntries_only _ _

/-! ### Ports and the pending switch -/

theorem receive_only (p : PortId) (f : Frame) (s : State) : Only [.bp, .fp, .ports] s (receive p f s) :=
  (setPort_only _ _ _).ite ((setPort_only _ _ _).andThen (raise_only _ _))

theorem execFrameReception_only {p : PortId} {f : Frame} {s t : State} (h : execFrameReception p f s = .next t) :
    Only [.bp, .fp, .ports] s t := by
  unfold execFrameReception at h
  split at h
  · obtain rfl := Host.Outcome.next.inj h
    exact (receive_only _ _ _).ite (Only.refl _ _)
  · cases h

theorem rejoin_only (p : PortId) (s : State) : Only [.bp, .fp, .ports] s (rejoin p s) := setPort_only _ _ _

theorem setSwitch_only (s : State) (w : Option PendingSwitch) : Only [] s (s.setMgmt { s.mgmt with switch := w }) := by
  intro q _; cases q <;> simp [Part.Same, Port.Puts.refl]

/-- The part has started, with any cause, from a state that differs from `s` in the ports alone. -/
def Started (s t : State) : Prop := ∃ cause u, Only [.bp, .fp, .ports] s u ∧ u.mgmt.store = s.mgmt.store ∧ t = startPart cause u

theorem carryOut_cases (k : SwitchKind) (s : State) : Started s (carryOut k s) ∨ Only [] s (carryOut k s) := by
  cases k with
  | reset => exact Or.inl ⟨.command, s, Only.refl _ _, rfl, rfl⟩
  | newMb => exact Or.inr ((setClassifier_only _ _).trans (setSwitch_only _ _))

theorem Started.of_only {s u t : State} (k : Started u t) (h : Only [.bp, .fp, .ports] s u) (hst : u.mgmt.store = s.mgmt.store) :
    Started s t := by
  obtain ⟨cause, v, hv, hvst, rfl⟩ := k
  exact ⟨cause, v, h.trans hv, hvst.trans hst, rfl⟩

theorem switchOnReply_cases (s : State) : Started s (switchOnReply s) ∨ Only [] s (switchOnReply s) := by
  unfold switchOnReply
  split
  · exact carryOut_cases _ _
  · exact Or.inr (Only.refl _ _)

theorem switchOnBusOff_cases (s : State) : Started s (switchOnBusOff s) ∨ Only [] s (switchOnBusOff s) := by
  unfold switchOnBusOff
  split
  · split
    · split
      · exact carryOut_cases _ _
      · exact Or.inr (setSwitch_only _ _)
    · exact carryOut_cases _ _
  · exact Or.inr (Only.refl _ _)

theorem switchTimerEnds_cases (s : State) : Started s (switchTimerEnds s) ∨ Only [] s (switchTimerEnds s) := by
  unfold switchTimerEnds
  split
  · split
    · exact carryOut_cases _ _
    · exact Or.inr (setSwitch_only _ _)
  · exact Or.inr (Only.refl _ _)

theorem reportCompletion_cases (x : QueuedFrame) (s : State) :
    Started s (reportCompletion x s) ∨ Only [.schedules] s (reportCompletion x s) := by
  unfold reportCompletion
  split
  · exact Or.inr (setSchedule_only _ _ _)
  · exact (switchOnReply_cases s).imp_right fun h => h.mono (by simp)
  all_goals exact Or.inr (Only.refl _ _)

theorem execTransmitComplete_cases {p : PortId} {s t : State} (h : execTransmitComplete p s = .next t) :
    Started s t ∨ Only [.bp, .fp, .ports, .schedules] s t := by
  unfold execTransmitComplete at h
  split at h <;> obtain rfl := Host.Outcome.next.inj h
  · rcases reportCompletion_cases _ _ with h | h
    · exact Or.inl (h.of_only (setPort_only _ _ _) rfl)
    · exact Or.inr ((setPort_only _ _ _).andThen h)
  · exact Or.inr (Only.refl _ _)

theorem transmitFails_cases (p : PortId) (s : State) :
    Started s (transmitFails p s) ∨ Only [.bp, .fp, .ports] s (transmitFails p s) := by
  have off (x : Port) : Only [.bp, .fp, .ports] s (raise .busOff (s.setPort p x)) := (setPort_only _ _ _).andThen (raise_only _ _)
  unfold transmitFails
  dsimp only
  split
  · exact Or.inr (setPort_only _ _ _)
  · split
    · rcases switchOnBusOff_cases _ with h | h
      · exact Or.inl (h.of_only (off ((s.port .bp).fellOff _)) rfl)
      · exact Or.inr ((off _).trans (h.mono (by simp)))
    · exact Or.inr (off _)

theorem execTransmitError_cases {p : PortId} {s t : State} (h : execTransmitError p s = .next t) :
    Started s t ∨ Only [.bp, .fp, .ports] s t := by
  unfold execTransmitError at h
  split at h <;> obtain rfl := Host.Outcome.next.inj h
  · exact transmitFails_cases _ _
  · exact Or.inr (Only.refl _ _)

theorem execSwitchTimerExpiry_cases {s t : State} (h : execSwitchTimerExpiry s = .next t) :
    Started s t ∨ Only [] s t := by
  rcases onExpiry_cases (switchTimer s) switchTimerEnds s with ⟨-, e⟩ | ⟨d, -, e⟩ <;>
    obtain rfl := Host.Outcome.next.inj (e.symm.trans h)
  · exact Or.inr (Only.refl _ _)
  · rcases switchTimerEnds_cases (s.advanceTo d) with h | h
    · exact Or.inl (h.of_only ((advanceTo_only _ _).mono (by simp)) rfl)
    · exact Or.inr ((advanceTo_only _ _).trans h)

theorem execInitEnd_only {s t : State} (h : execInitEnd s = .next t) :
    Only [.phase, .zones, .doors, .channels, .schedules, .stackClimate] s t := by
  unfold execInitEnd at h
  split at h <;> obtain rfl := Host.Outcome.next.inj h
  · intro q hq; cases q <;> simp_all [Part.Same, Port.Puts.refl, endInit]
  · exact Only.refl _ _

/-! ### Management unit -/

theorem serveReadRecord_only (data : List Byte) (s : State) : Only [.bp, .fp] s (serveReadRecord data s) := by
  unfold serveReadRecord
  split
  · exact reply_only _ _ _
  · exact ((replyWith_only _ _ _ _).ite (reply_only _ _ _)).ite (reply_only _ _ _)

theorem serveReadState_only (data : List Byte) (s : State) : Only [.bp, .fp] s (serveReadState data s) := by
  unfold serveReadState
  split
  · exact (replyWith_only _ _ _ _).ite (reply_only _ _ _)
  · exact reply_only _ _ _

theorem serveLoadBegin_only (data : List Byte) (s : State) : Only [.bp, .fp, .load] s (serveLoadBegin data s) := by
  have answered (code : Nat) (st : Status) : Only [.bp, .fp, .load] s (reply code st s) :=
    (reply_only _ _ _).mono (by decide)
  unfold serveLoadBegin
  refine (answered _ _).ite ?_
  split
  · exact answered _ _
  · exact Only.ite ((setMgmt_only _ _).andThen (reply_only _ _ _)) (answered _ _)

theorem failLoad_only (cause : FailureCause) (s : State) : Only [.bp, .load] s (failLoad cause s) :=
  (setMgmt_only _ _).andThen (raise_only _ _)

theorem takeLoadData_only (data : List Byte) (s : State) : Only [.bp, .load] s (takeLoadData data s) := by
  have stray : Only [.bp, .load] s (countStray s) := (setMgmt_only _ _).mono (by decide)
  unfold takeLoadData
  split
  · exact Only.ite ((setMgmt_only _ _).andThen (raiseWhen_only _ _ _)) (failLoad_only _ _)
  all_goals exact stray

theorem execLoadData_only {s t : State} (h : execLoadData s = .next t) : Only [.bp, .load] s t := by
  unfold execLoadData at h
  split at h <;> obtain rfl := Host.Outcome.next.inj h
  · exact ((dropCaptured_only _ _).mono (by simp)).trans (takeLoadData_only _ _)
  · exact Only.refl _ _

theorem emptyLoad_only (s : State) : Only [.load] s (emptyLoad s) := setMgmt_only _ _

theorem serveAbortLoad_only (data : List Byte) (s : State) : Only [.bp, .fp, .load] s (serveAbortLoad data s) :=
  (emptyLoad_only _).andThen (reply_only _ _ _)

theorem replyThenSwitch_only (code : Nat) (k : SwitchKind) (s : State) :
    Only [.bp, .fp] s (replyThenSwitch code k s) :=
  (putFrame_only _ _ _ _).andThen (setSwitch_only _ _)

/-- The parts that an activation changes, of whichever table. -/
abbrev Part.activation : List Part :=
  [.tables, .bp, .fp, .slots, .zones, .doors, .channels, .outputs, .schedules, .entries, .load]

theorem setSlots_only (s : State) (x : List SlotLive) (h : x.length = s.slots.length) :
    Only [.slots] s (s.setSlots x) := by
  intro q hq; cases q <;> simp_all [Part.Same, Port.Puts.refl]

theorem activateSlots_only (w : LoadWindow) (s : State) : Only [.slots] s (activateSlots w s) := by
  have cleared := setSlots_only s (s.slots.mapIdx fun i l => if w.holds i then {} else l) (List.length_mapIdx)
  unfold activateSlots
  dsimp only
  split
  · exact cleared.andThen (leaveNotice_only _ _ _)
  · exact cleared

/-- The parts that the blocks change on an activation. -/
def TableId.parts : TableId → List Part
  | .slots => [.bp, .slots, .zones]
  | .zones => [.zones]
  | .doors => [.doors]
  | .screens => [.channels]
  | .outputs => [.outputs]
  | .commandFrames => [.schedules]
  | .presets => [.entries]
  | .globals => [.bp, .zones]
  | .frameHandling | .classMap | .bindings | .outdoorCurve | .depression => []

theorem takeActivation_only (w : LoadWindow) (s : State) : Only w.table.parts s (takeActivation w s) := by
  unfold takeActivation
  split <;> rename_i hk <;> rw [hk]
  case h_1 =>
    have cleared : Only TableId.slots.parts s (activateSlots w s) := (activateSlots_only w s).mono (by decide)
    dsimp only
    split
    · exact Only.ite (cleared.andThen (deriveClimate_only _ _) (by decide) (by decide)) cleared
    · exact cleared
  case h_2 => exact setRegulator_only s _ (List.length_mapIdx)
  case h_3 => exact setDoors_only s _ (List.length_mapIdx)
  case h_4 => exact setScreens_only s _ (List.length_mapIdx)
  case h_5 => intro q hq; cases q <;> simp_all [Part.Same, Port.Puts.refl, TableId.parts]
  case h_6 => intro q hq; cases q <;> simp_all [Part.Same, Port.Puts.refl, TableId.parts]
  case h_7 => intro q hq; cases q <;> simp_all [Part.Same, Port.Puts.refl, TableId.parts]
  case h_8 => exact deriveClimate_only _ _
  all_goals exact Only.refl _ _

theorem goLive_only (w : LoadWindow) (merged : List Rec) (s : State) :
    Only (.tables :: w.table.parts) s (goLive w merged s) :=
  (setTables_only _ _).andThen (takeActivation_only w _) (by simp) (by simp)

theorem activateComplete_only (w : LoadWindow) (s : State) : Only Part.activation s (activateComplete w s) := by
  let merged := mergedTable (s.tables.get w.table) w s.mgmt.buffer
  have live : Only Part.activation s (emptyLoad (goLive w merged s)) :=
    (goLive_only w merged s).andThen (emptyLoad_only _) (by cases w.table <;> decide)
  unfold activateComplete activateWindow
  dsimp only
  refine Only.ite (live.trans ?_) ((emptyLoad_only _).andThen (reply_only _ _ _))
  exact Only.ite ((replyThenSwitch_only _ _ _).mono (by decide)) ((reply_only _ _ _).mono (by decide))

theorem serveActivate_only (data : List Byte) (s : State) : Only Part.activation s (serveActivate data s) := by
  have answered (code : Nat) (st : Status) : Only Part.activation s (reply code st s) :=
    (reply_only _ _ _).mono (by decide)
  unfold serveActivate
  split
  · exact answered _ _
  · exact (activateComplete_only _ _).ite (answered _ _)
  · exact answered _ _

theorem serveStore_only (data : List Byte) (s : State) : Only [.bp, .fp] s (serveStore data s) := by
  have begun (mask : BitVec 7) : Only [.bp, .fp] s (beginStore mask s) := by
    intro q _; cases q <;> simp [Part.Same, Port.Puts.refl, beginStore]
  exact (reply_only _ _ _).ite ((reply_only _ _ _).ite (begun _))

theorem endStore_only (im : Image) (st : Status) (s : State) : Only [.image, .bp, .fp] s (endStore im st s) := by
  have ended : Only [] (s.setImage im) ((s.setImage im).setMgmt { s.mgmt with store := none }) := by
    intro q _; cases q <;> simp [Part.Same, Port.Puts.refl]
  exact ((setImage_only _ _).andThen ended (rs := [.image, .bp, .fp])).andThen (reply_only _ _ _)

theorem storeEnds_only (failed : Option StoreStep) (w : StoreRun) (s : State) :
    Only [.image, .bp, .fp] s (storeEnds failed w s) := by
  unfold storeEnds
  split
  · exact endStore_only _ _ _
  · exact (endStore_only _ _ _).andThen (setFreeIndex_only _ _)

theorem execStoreWriteEnd_only {failed : Option StoreStep} {s t : State} (h : execStoreWriteEnd failed s = .next t) :
    Only [.image, .bp, .fp] s t := by
  unfold execStoreWriteEnd at h
  split at h <;> obtain rfl := Host.Outcome.next.inj h
  · exact storeEnds_only _ _ _
  · exact Only.refl _ _

theorem storeTimesOut_only (s : State) : Only [.image, .bp, .fp] s (storeTimesOut s) := by
  unfold storeTimesOut
  split
  · exact storeEnds_only _ _ _
  · exact Only.refl _ _

theorem serveForceOutput_only (data : List Byte) (s : State) : Only [.bp, .fp, .outputs] s (serveForceOutput data s) := by
  have answered (code : Nat) (st : Status) : Only [.bp, .fp, .outputs] s (reply code st s) :=
    (reply_only _ _ _).mono (by decide)
  exact Only.ite (Only.ite (Only.ite ((setOutput_only _ _ _).andThen (reply_only _ _ _)) (answered _ _)) (answered _ _))
    (answered _ _)

theorem serveReleaseOutput_only (data : List Byte) (s : State) :
    Only [.bp, .fp, .outputs] s (serveReleaseOutput data s) :=
  Only.ite ((mapOutputs_only _ _).andThen (reply_only _ _ _)) ((reply_only _ _ _).mono (by decide))

theorem serveSetFramePeriod_only (data : List Byte) (s : State) :
    Only [.bp, .fp, .schedules] s (serveSetFramePeriod data s) := by
  have answered (code : Nat) (st : Status) : Only [.bp, .fp, .schedules] s (reply code st s) :=
    (reply_only _ _ _).mono (by decide)
  exact Only.ite (Only.ite (Only.ite ((setSchedule_only _ _ _).andThen (reply_only _ _ _)) (answered _ _)) (answered _ _))
    (answered _ _)

theorem clearCounters_only (port : Nat) (s : State) : Only [.bp, .fp, .ports, .slots] s (clearCounters port s) := by
  intro q hq; cases q <;> simp_all [Part.Same, clearCounters]

theorem serveClearCounters_only (data : List Byte) (s : State) :
    Only [.bp, .fp, .ports, .slots] s (serveClearCounters data s) :=
  Only.ite ((clearCounters_only _ _).andThen (reply_only _ _ _)) ((reply_only _ _ _).mono (by decide))

theorem setFlagWords_only (s : State) (flags enables : BitVec 22) :
    Only [] s (s.setMgmt { s.mgmt with flags := flags, enables := enables }) := by
  intro q _; cases q <;> simp [Part.Same, Port.Puts.refl]

theorem serveClearEvents_only (data : List Byte) (s : State) : Only [.bp, .fp] s (serveClearEvents data s) :=
  (setFlagWords_only s _ _).andThen (reply_only _ _ _)

theorem serveReportDisable_only (data : List Byte) (s : State) : Only [.bp, .fp] s (serveReportDisable data s) :=
  (setFlagWords_only s _ _).andThen (reply_only _ _ _)

theorem serveReportEnable_only (data : List Byte) (s : State) : Only [.bp, .fp] s (serveReportEnable data s) :=
  ((setFlagWords_only s _ _).andThen (reportWhen_only _ _) (rs := [.bp, .fp])).andThen (reply_only _ _ _)

theorem serveResume_only (data : List Byte) (s : State) : Only (.fp :: Part.allocation) s (serveResume data s) := by
  unfold serveResume
  split
  · exact (enterResuming_only _).andThen (reply_only _ _ _)
  all_goals exact (reply_only _ _ _).mono (by decide)

theorem execUnknownRequest_only {s t : State} (h : execUnknownRequest s = .next t) : Only [.bp, .fp] s t := by
  unfold execUnknownRequest at h
  split at h
  · split at h <;> obtain rfl := Host.Outcome.next.inj h
    · exact Only.refl _ _
    · exact (dropCaptured_only _ _).andThen (reply_only _ _ _)
  · obtain rfl := Host.Outcome.next.inj h
    exact Only.refl _ _

/-! ### Every command -/

/-- The parts that a command can change, but for the start that some commands make. -/
def partsOf : Instr → List Part
  | .powerOn | .resetPin | .switchTimerExpiry => []
  | .initEnd => [.phase, .zones, .doors, .channels, .schedules, .stackClimate]
  | .frameReception _ _ | .rxError _ | .transmitAttempt _ | .arbitrationLost _ | .transmitError _ | .busOffHoldExpiry _
  | .frameClassify => [.bp, .fp, .ports]
  | .transmitComplete _ => [.bp, .fp, .ports, .schedules]
  | .readRecord | .readState | .store | .clearEvents | .reportEnable | .reportDisable | .reset
  | .unknownRequest => [.bp, .fp]
  | .framePeriodExpiry _ | .spacingExpiry _ | .setFramePeriod => [.bp, .fp, .schedules]
  | .binderRun => [.bp, .fp, .ports, .slots, .doors]
  | .stalenessExpiry _ => [.bp, .slots]
  | .vehicleModeNotice | .zoneStep _ => [.bp, .zones]
  | .storageHoldExpiry _ => [.zones]
  | .doorPeriod _ | .doorOpenNotice _ | .releaseNotice _ | .openTimerExpiry _ | .runOnExpiry _ | .doorClimateNotice =>
    [.doors]
  | .signalLostExpiry _ => [.bp, .doors]
  | .screenEvaluation _ => [.bp, .channels]
  | .screenClimateNotice => [.channels]
  | .lineWriteNotice | .lineLeaveNotice | .poleChangeNotice | .resumeDelayExpiry | .longBreakExpiry
  | .budgetTimerExpiry => Part.allocation
  | .resume => .fp :: Part.allocation
  | .publicationTake => Part.publication
  | .composerClimateNotice => [.outputs]
  | .push | .pop | .remove | .clear | .deskReject => [.bp, .entries]
  | .lifetimeExpiry _ => [.entries]
  | .stackClimateNotice => [.entries, .stackClimate]
  | .loadBegin | .abortLoad => [.bp, .fp, .load]
  | .loadData | .loadTimerExpiry => [.bp, .load]
  | .activate => Part.activation
  | .storeWriteEnd _ | .storeTimeout => [.image, .bp, .fp]
  | .forceOutput | .releaseOutput => [.bp, .fp, .outputs]
  | .clearCounters => [.bp, .fp, .ports, .slots]

/-- A command makes a start, or changes only its parts. -/
theorem exec_cases {c : Instr} {s t : State} (h : exec c s = .next t) : Started s t ∨ Only (partsOf c) s t := by
  have started (cause : StartCause) (e : startPart cause s = t) : Started s t :=
    ⟨cause, s, Only.refl _ _, rfl, e.symm⟩
  cases c with
  | powerOn => exact Or.inl (started _ (Host.Outcome.next.inj h))
  | resetPin => exact Or.inl (started _ (Host.Outcome.next.inj h))
  | transmitComplete p => exact execTransmitComplete_cases h
  | transmitError p => exact execTransmitError_cases h
  | switchTimerExpiry => exact execSwitchTimerExpiry_cases h
  | initEnd => exact Or.inr (execInitEnd_only h)
  | frameReception => exact Or.inr (execFrameReception_only h)
  | rxError => obtain rfl := Host.Outcome.next.inj h; exact Or.inr ((setPort_only _ _ _).ite (Only.refl _ _))
  | transmitAttempt => obtain rfl := Host.Outcome.next.inj h; exact Or.inr ((setPort_only _ _ _).ite (Only.refl _ _))
  | arbitrationLost => obtain rfl := Host.Outcome.next.inj h; exact Or.inr (setPort_only _ _ _)
  | busOffHoldExpiry => exact Or.inr (onExpiry_only (rejoin_only _) h)
  | frameClassify => exact Or.inr (execFrameClassify_only h)
  | binderRun => exact Or.inr (execBinderRun_only h)
  | stalenessExpiry => exact Or.inr (onExpiry_only (staleSlot_only _) h)
  | vehicleModeNotice => exact Or.inr (execVehicleModeNotice_only h)
  | zoneStep => exact Or.inr (onExpiry_only (stepZone_only _) h)
  | storageHoldExpiry => exact Or.inr (onExpiry_only (endHold_only _) h)
  | doorPeriod => exact Or.inr (onExpiry_only (periodDoor_only _) h)
  | doorOpenNotice => exact Or.inr (execDoorOpenNotice_only h)
  | releaseNotice => exact Or.inr (execReleaseNotice_only h)
  | openTimerExpiry => exact Or.inr (onExpiry_only (openTimerEnds_only _) h)
  | runOnExpiry => exact Or.inr (onExpiry_only (runOnEnds_only _) h)
  | signalLostExpiry => exact Or.inr (onExpiry_only (signalLostEnds_only _) h)
  | doorClimateNotice => exact Or.inr (execDoorClimateNotice_only h)
  | screenEvaluation => exact Or.inr (onExpiry_only (evaluateScreen_only _) h)
  | screenClimateNotice => exact Or.inr (execScreenClimateNotice_only h)
  | lineWriteNotice => exact Or.inr (execLineWriteNotice_only h)
  | lineLeaveNotice => exact Or.inr (execLineLeaveNotice_only h)
  | poleChangeNotice => exact Or.inr (execPoleChangeNotice_only h)
  | resumeDelayExpiry => exact Or.inr (onExpiry_only resumeDelayEnds_only h)
  | longBreakExpiry => exact Or.inr (onExpiry_only longBreakEnds_only h)
  | budgetTimerExpiry => exact Or.inr (onExpiry_only budgetTick_only h)
  | publicationTake => exact Or.inr (execPublicationTake_only h)
  | composerClimateNotice => exact Or.inr (execComposerClimateNotice_only h)
  | framePeriodExpiry => exact Or.inr (onExpiry_only (framePeriodEnds_only _) h)
  | spacingExpiry => exact Or.inr (onExpiry_only (spacingEnds_only _) h)
  | push => exact Or.inr (takeDesk_only h)
  | pop => exact Or.inr (takeDesk_only h)
  | remove => exact Or.inr (takeDesk_only h)
  | clear => exact Or.inr (takeDesk_only h)
  | deskReject => exact Or.inr (takeDesk_only h)
  | lifetimeExpiry => exact Or.inr (onExpiry_only (lapse_only _) h)
  | stackClimateNotice => exact Or.inr (execStackClimateNotice_only h)
  | readRecord => exact Or.inr (takeRequest_only serveReadRecord_only h)
  | readState => exact Or.inr (takeRequest_only serveReadState_only h)
  | loadBegin => exact Or.inr (takeRequest_only serveLoadBegin_only h)
  | loadData => exact Or.inr (execLoadData_only h)
  | loadTimerExpiry => exact Or.inr (onExpiry_only (failLoad_only _) h)
  | abortLoad => exact Or.inr (takeRequest_only serveAbortLoad_only h)
  | activate => exact Or.inr (takeRequest_only serveActivate_only h)
  | store => exact Or.inr (takeRequest_only serveStore_only h)
  | storeWriteEnd => exact Or.inr (execStoreWriteEnd_only h)
  | storeTimeout => exact Or.inr (onExpiry_only storeTimesOut_only h)
  | forceOutput => exact Or.inr (takeRequest_only serveForceOutput_only h)
  | releaseOutput => exact Or.inr (takeRequest_only serveReleaseOutput_only h)
  | setFramePeriod => exact Or.inr (takeRequest_only serveSetFramePeriod_only h)
  | clearCounters => exact Or.inr (takeRequest_only serveClearCounters_only h)
  | clearEvents => exact Or.inr (takeRequest_only serveClearEvents_only h)
  | reportEnable => exact Or.inr (takeRequest_only serveReportEnable_only h)
  | reportDisable => exact Or.inr (takeRequest_only serveReportDisable_only h)
  | resume => exact Or.inr (takeRequest_only serveResume_only h)
  | reset => exact Or.inr (takeRequest_only (fun _ s => replyThenSwitch_only _ _ s) h)
  | unknownRequest => exact Or.inr (execUnknownRequest_only h)

end Sys2Proof.Machine
end

section
/-! PROOFS. One step and its command, the commands' completion, and the state that a start leaves. -/

namespace Sys2Proof.Machine

-- One theorem at a time: a thread for each of them at once would not fit into the checker's memory bound.
set_option Elab.async false

/-! ### Steps -/

/-- Settles O1: the queue's front is what `step` looks at. -/
theorem stepRunsFront : Obligations.StepRunsFront := by
  intro c rest s h
  simp only [step, h]
  rfl

theorem step_cases {s t : State} (h : step s = .next t) :
    t = idle s ∨ ∃ c rest, exec c (s.setPending rest) = .next t := by
  unfold step at h
  split at h
  · exact Or.inr ⟨_, _, h⟩
  · exact Or.inl (Host.Outcome.next.inj h).symm

theorem elapse_only (s : State) (ms : Nat) : Only [] s (s.elapse ms) := setNow_only _ _

/-- A predicate reads nothing but the given parts of a state. -/
def Supported (P : State → Prop) (ps : List Part) : Prop := ∀ s t, (∀ p ∈ ps, p.Same s t) → P s → P t

theorem Supported.of_only {P : State → Prop} {ps qs : List Part} (hP : Supported P ps) {s t : State} (h : Only qs s t)
    (hs : P s) (hd : ∀ p ∈ ps, p ∉ qs := by decide) : P t :=
  hP s t (fun p hp => h p (hd p hp)) hs

/-- An invariant that every command keeps is kept by every step. `Q` is what else the commands may assume. -/
theorem Supported.step_keeps {P Q : State → Prop} {ps : List Part} (hP : Supported P ps)
    (hQ : ∀ s rest, Q s → Q (s.setPending rest))
    (hexec : ∀ c s t, Q s → P s → exec c s = .next t → P t) {s t : State} (q : Q s) (p : P s)
    (h : step s = .next t) (hd : ∀ p ∈ ps, p ∉ [Part.queue] := by decide) : P t := by
  rcases step_cases h with rfl | ⟨c, rest, h⟩
  · exact hP.of_only (elapse_only s _) p (by simp)
  · exact hexec c _ _ (hQ s rest q) (hP.of_only (setPending_only s rest) p hd) h

/-! ### A start's state -/

section
variable (cause : StartCause) (s : State)

@[simp] theorem startPart_phase : (startPart cause s).phase = .init := rfl
@[simp] theorem startPart_pending : (startPart cause s).pending = s.pending := rfl
@[simp] theorem startPart_tables : (startPart cause s).tables = (imageAtReset s).loaded := rfl
@[simp] theorem startPart_image : (startPart cause s).image = imageAtReset s := rfl
@[simp] theorem startPart_fp : (startPart cause s).fp = {} := rfl
@[simp] theorem startPart_binder : (startPart cause s).binder = [] := rfl
@[simp] theorem startPart_slots : (startPart cause s).slots = List.replicate 96 {} := rfl
@[simp] theorem startPart_regulator : (startPart cause s).regulator = {} := rfl
@[simp] theorem startPart_doors : (startPart cause s).doors = {} := rfl
@[simp] theorem startPart_screens : (startPart cause s).screens = {} := rfl
@[simp] theorem startPart_overrides : (startPart cause s).overrides = {} := rfl
@[simp] theorem startPart_supply : (startPart cause s).supply =
    { target := (globals (imageAtReset s).loaded).breakAllowance
      ceiling := (globals (imageAtReset s).loaded).breakAllowance
      lastPub := startPublication (imageAtReset s).loaded } := rfl
@[simp] theorem startPart_composer : (startPart cause s).composer =
    { copy := startPublication (imageAtReset s).loaded
      schedules := (List.range 24).map fun n => { period := (frameCfg (imageAtReset s).loaded n).period } } := rfl
theorem startPart_mgmt :
    (startPart cause s).mgmt = { cause := cause, flags := (startPart cause s).mgmt.flags } := rfl

end

/-- The flags after a start: START, and IMAGE_INVALID without a valid signature. -/
def startFlags (im : Image) : BitVec 22 := if im.signed then 1 else 0x100001

/-- A newly set and enabled flag whose report BP takes. -/
theorem raiseWhen_of_reported {f : Flag} {s : State} (hf : hasFlag s.mgmt.flags f = false)
    (he : hasFlag s.mgmt.enables f = true) (ho : s.bp.outcome .urgent .eventReport ≠ .dropped) :
    raiseWhen true f s = { s with
      bp := s.bp.put .urgent (eventReport s (s.mgmt.flags ||| f.mask))
      mgmt := { s.mgmt with flags := s.mgmt.flags ||| f.mask } } := by
  rcases raiseWhen_cases true f s with ⟨h | h, -⟩ | ⟨-, -, h, -⟩ | ⟨-, -, -, e⟩
  · cases h
  · rw [hf] at h; cases h
  · rw [he] at h; cases h
  · rcases reportPut_cases s s.bp (s.mgmt.flags ||| f.mask) with ⟨-, r⟩ | ⟨h, -⟩
    · rw [e, r]
    · exact absurd h ho

/-- A flag that a start sets: BP URGENT is empty or holds the start's report alone, and the new report takes its place. -/
theorem raiseWhen_at_start {f : Flag} {s : State} {old new : BitVec 22} {reports : List QueuedFrame} {cause : StartCause}
    (hm : s.mgmt = { cause := cause, flags := old }) (hb : s.bp = { urgent := reports })
    (hr : reports = [] ∨ ∃ w, reports = [eventReport s w]) (hf : hasFlag old f = false)
    (he : hasFlag 0x181011 f = true) (hn : old ||| f.mask = new) :
    raiseWhen true f s = { s with
      bp := { urgent := [eventReport s new] }
      mgmt := { cause := cause, flags := new } } := by
  have put : s.bp.outcome .urgent .eventReport ≠ .dropped ∧
      s.bp.put .urgent (eventReport s new) = { urgent := [eventReport s new] } := by
    rw [hb]
    rcases hr with rfl | ⟨w, rfl⟩
    · exact ⟨show PutOutcome.accepted ≠ .dropped by decide, rfl⟩
    · exact ⟨show PutOutcome.coalesced ≠ .dropped by decide, rfl⟩
  rw [raiseWhen_of_reported (by rw [hm]; exact hf) (by rw [hm]; exact he) put.1, hm, hn, put.2]

/-- A start sets its flags one after the other, and the report of the last stays in BP URGENT, coalesced with the first. -/
theorem startPart_eq (cause : StartCause) (s : State) :
    startPart cause s =
      (let v := startValues cause (imageAtReset s) (imageAtReset s).loaded s
       { v with
          bp := { urgent := [eventReport v (startFlags (imageAtReset s))] }
          mgmt := { cause := cause, flags := startFlags (imageAtReset s) } }) := by
  cases h : (imageAtReset s).signed with
  | true =>
    simp only [startPart, startFlags, h, if_true]
    exact raiseWhen_at_start (old := 0) rfl rfl (Or.inl rfl) (by decide) (by decide) (by decide)
  | false =>
    have first := raiseWhen_at_start (f := .imageInvalid) (old := 0) (new := 0x100000) (cause := cause)
      (s := startValues cause (imageAtReset s) (imageAtReset s).loaded s) rfl rfl (Or.inl rfl) (by decide) (by decide)
      (by decide)
    simp only [startPart, startFlags, h, Bool.not_false, first]
    exact raiseWhen_at_start (old := 0x100000) rfl rfl (Or.inr ⟨_, rfl⟩) (by decide) (by decide) (by decide)

/-- Without an image write under way a start finds the image as it stands. -/
theorem imageAtReset_of_idle {s : State} (h : s.mgmt.store = none) : imageAtReset s = s.image := by
  simp only [imageAtReset, h]

theorem Image.loaded_of_unsigned {im : Image} (h : im.signed = false) : im.loaded = Tables.defaults := by
  simp only [Image.loaded, Image.accepts, h, Bool.false_and]
  rfl

theorem startPart_of_blank {s : State} (hs : s.image.signed = false) (hw : s.mgmt.store = none) :
    startPart .power s = { State.reset with
      now := s.now, freeIndex := s.freeIndex + 1, image := s.image, pending := s.pending } := by
  rw [startPart_eq, imageAtReset_of_idle hw, Image.loaded_of_unsigned hs]
  simp only [startFlags, hs]
  rfl

/-- Settles O5: both commands are the same start. -/
theorem startWithoutImage : Obligations.StartWithoutImage := by
  rintro c s (rfl | rfl) hs hw <;> exact congrArg _ (startPart_of_blank hs hw)

end Sys2Proof.Machine
end

section
/-! PROOFS. Which commands complete, what a start loads, and the quiet of INIT (R16, R175). -/

namespace Sys2Proof.Machine

-- One theorem at a time: a thread for each of them at once would not fit into the checker's memory bound.
set_option Elab.async false

/-! ### Completion -/

theorem onExpiry_completes (timer : Timer) (k : State → State) (s : State) : ∃ t, onExpiry timer k s = .next t := by
  rcases onExpiry_cases timer k s with ⟨-, e⟩ | ⟨d, -, e⟩ <;> exact ⟨_, e⟩

theorem takeRequest_completes (code : Nat) (serve : List Byte → State → State) (s : State) :
    ∃ t, takeRequest code serve s = .next t := by
  rcases takeRequest_cases code serve s with e | ⟨_, _, -, -, -, ⟨-, e⟩ | ⟨-, e⟩⟩ <;> exact ⟨_, e⟩

theorem takeDesk_completes (isMine : List Byte → Bool) (s : State) : ∃ t, takeDesk isMine s = .next t := by
  rcases takeDesk_cases isMine s with e | ⟨_, _, -, -, e⟩ <;> exact ⟨_, e⟩

theorem exec_completes (c : Instr) (s : State) (hc : c.wellFormed = true) : ∃ t, exec c s = .next t := by
  cases c with
  | frameReception p f => exact ⟨_, if_pos hc⟩
  | powerOn | resetPin | rxError | transmitAttempt | arbitrationLost => exact ⟨_, rfl⟩
  | busOffHoldExpiry | stalenessExpiry | zoneStep | storageHoldExpiry | doorPeriod | openTimerExpiry | runOnExpiry
  | signalLostExpiry | screenEvaluation | resumeDelayExpiry | longBreakExpiry | budgetTimerExpiry | framePeriodExpiry
  | spacingExpiry | lifetimeExpiry | loadTimerExpiry | storeTimeout | switchTimerExpiry =>
    exact onExpiry_completes _ _ _
  | push | pop | remove | clear | deskReject => exact takeDesk_completes _ _
  | readRecord | readState | loadBegin | abortLoad | activate | store | forceOutput | releaseOutput | setFramePeriod
  | clearCounters | clearEvents | reportEnable | reportDisable | resume | reset => exact takeRequest_completes _ _ _
  | initEnd => simp only [exec, execInitEnd]; split <;> exact ⟨_, rfl⟩
  | transmitComplete => simp only [exec, execTransmitComplete]; split <;> exact ⟨_, rfl⟩
  | transmitError => simp only [exec, execTransmitError]; split <;> exact ⟨_, rfl⟩
  | frameClassify =>
    simp only [exec, execFrameClassify]
    split
    · split <;> exact ⟨_, rfl⟩
    · exact ⟨_, rfl⟩
  | binderRun => simp only [exec, execBinderRun]; split <;> exact ⟨_, rfl⟩
  | vehicleModeNotice => simp only [exec, execVehicleModeNotice]; split <;> exact ⟨_, rfl⟩
  | doorOpenNotice => simp only [exec, execDoorOpenNotice]; split <;> exact ⟨_, rfl⟩
  | releaseNotice => simp only [exec, execReleaseNotice]; split <;> exact ⟨_, rfl⟩
  | doorClimateNotice => simp only [exec, execDoorClimateNotice]; split <;> exact ⟨_, rfl⟩
  | screenClimateNotice => simp only [exec, execScreenClimateNotice]; split <;> exact ⟨_, rfl⟩
  | lineWriteNotice => simp only [exec, execLineWriteNotice]; split <;> exact ⟨_, rfl⟩
  | lineLeaveNotice => simp only [exec, execLineLeaveNotice]; split <;> exact ⟨_, rfl⟩
  | poleChangeNotice => simp only [exec, execPoleChangeNotice]; split <;> exact ⟨_, rfl⟩
  | publicationTake => simp only [exec, execPublicationTake]; split <;> exact ⟨_, rfl⟩
  | composerClimateNotice => simp only [exec, execComposerClimateNotice]; split <;> exact ⟨_, rfl⟩
  | stackClimateNotice => simp only [exec, execStackClimateNotice]; split <;> exact ⟨_, rfl⟩
  | loadData => simp only [exec, execLoadData]; split <;> exact ⟨_, rfl⟩
  | storeWriteEnd => simp only [exec, execStoreWriteEnd]; split <;> exact ⟨_, rfl⟩
  | unknownRequest =>
    simp only [exec, execUnknownRequest]
    split
    · split <;> exact ⟨_, rfl⟩
    · exact ⟨_, rfl⟩

/-- Settles O3: only FRAME_RECEPTION looks at well-formedness, and every other command completes. -/
theorem stopsOnlyOnIllFormedFrame : Obligations.StopsOnlyOnIllFormedFrame := by
  refine fun c s => ⟨exec_completes c s, fun hc => ?_⟩
  cases c with
  | frameReception p f => exact if_neg (by simpa [Instr.wellFormed] using hc)
  | _ => cases hc

/-- Settles O2: the queue is in no command's parts, and a start hands it on. -/
theorem execLeavesQueue : Obligations.ExecLeavesQueue := by
  intro c s t h
  rcases exec_cases h with ⟨cause, u, hu, -, rfl⟩ | only
  · exact hu .queue (by decide)
  · exact only .queue (by cases c <;> simp [partsOf])

/-! ### Start values -/

/-- Settles O4 by computation, the flag words flag by flag. -/
theorem resetValues : Obligations.ResetValues := by
  refine ⟨rfl, rfl, rfl, rfl, ?tables, rfl, rfl, rfl, rfl, rfl, rfl, rfl, rfl, rfl, rfl, ?flags, ?enables⟩
  case tables => intro k; cases k <;> rfl
  case flags => intro f; cases f <;> decide
  case enables => intro f; cases f <;> decide

theorem startPart_quiet (cause : StartCause) (s : State) : (startPart cause s).Quiet := by
  rw [startPart_eq]
  refine { bp := ⟨rfl, rfl, rfl⟩, fp := ⟨rfl, rfl, rfl⟩, binder := rfl, slots := ?_, notices := rfl, zones := ?_,
           doors := ⟨rfl, ?_⟩, screens := ⟨rfl, ?_⟩, supply := ⟨rfl, rfl, rfl, rfl⟩, composer := ⟨rfl, rfl, ?_⟩,
           overrides := ⟨rfl, rfl, rfl⟩, mgmt := ⟨rfl, rfl, rfl, rfl⟩ }
  · intro l hl; obtain rfl := List.eq_of_mem_replicate hl; rfl
  · intro l hl; obtain rfl := List.eq_of_mem_replicate hl; exact ⟨rfl, rfl⟩
  · intro l hl; obtain rfl := List.eq_of_mem_replicate hl; exact ⟨rfl, rfl, rfl, rfl, rfl, rfl⟩
  · intro l hl; obtain rfl := List.eq_of_mem_replicate hl; rfl
  · intro l hl; obtain ⟨n, -, rfl⟩ := List.mem_map.1 hl; exact ⟨rfl, rfl⟩

theorem Tables.get_build (f : TableId → List Rec) (k : TableId) : (Tables.build f).get k = f k := by
  cases k <;> rfl

theorem Image.loaded_get (im : Image) (k : TableId) : im.loaded.get k =
    if im.signed = true ∧ im.codes.getD k.group.number 0 = 1 then im.stored.get k
    else List.replicate k.count k.defaultRecord := by
  simp only [Image.loaded, Tables.get_build, Image.accepts, Bool.and_eq_true, beq_iff_eq, Tables.defaults]

theorem imageAtReset_signed (s : State) : (imageAtReset s).signed = (s.image.signed && s.mgmt.store.isNone) := by
  unfold imageAtReset
  split <;> rename_i h
  · simp [h, imageBroken]
  · simp [h]

theorem startFlags_start (im : Image) : hasFlag (startFlags im) .start = true := by
  unfold startFlags; split <;> decide

theorem startFlags_imageInvalid (im : Image) : hasFlag (startFlags im) .imageInvalid = !im.signed := by
  unfold startFlags; cases im.signed <;> decide

/-- Settles O6: both commands are `startPart` with cause POWER, whose state `startPart_eq` writes out. -/
theorem startLoadsAcceptedGroups : Obligations.StartLoadsAcceptedGroups := by
  intro c s hc
  refine ⟨startPart .power s, by rcases hc with rfl | rfl <;> rfl, ?_⟩
  rw [startPart_eq]
  refine ⟨Image.loaded_get _, imageAtReset_signed s, imageAtReset_of_idle, startFlags_start _,
    startFlags_imageInvalid _, rfl, rfl, startPart_eq .power s ▸ startPart_quiet .power s, rfl, ?_⟩
  cases h : (imageAtReset s).signed <;> simp only [startFlags, startValues, h] <;> rfl

/-! ### The quiet of INIT -/

theorem getD_of_forall {α : Type} {xs : List α} {d : α} {P : α → Prop} (h : ∀ x ∈ xs, P x) (hd : P d) (i : Nat) :
    P (xs.getD i d) := by
  rw [List.getD_eq_getElem?_getD]
  cases hx : xs[i]? with
  | none => exact hd
  | some x => exact h x (List.mem_of_getElem? hx)

theorem onExpiry_of_none {timer : Timer} (h : timer = none) (k : State → State) (s : State) :
    onExpiry timer k s = .next s := by
  rw [h]; rfl

theorem takeRequest_of_nil {s : State} (h : s.mgmt.captured = []) (code : Nat) (serve : List Byte → State → State) :
    takeRequest code serve s = .next s := by
  simp only [takeRequest, h]

theorem takeDesk_of_nil {s : State} (h : s.overrides.handOffs = []) (isMine : List Byte → Bool) :
    takeDesk isMine s = .next s := by
  simp only [takeDesk, h]

theorem State.Quiet.port {s : State} (q : s.Quiet) (p : PortId) :
    (s.port p).rx = [] ∧ (s.port p).offer = none ∧ (s.port p).hold = none := by
  cases p
  · exact q.bp
  · exact q.fp

theorem State.Quiet.zone {s : State} (q : s.Quiet) (z : Nat) : (s.zone z).step = none ∧ (s.zone z).hold = none :=
  getD_of_forall q.zones ⟨rfl, rfl⟩ z

theorem State.Quiet.door {s : State} (q : s.Quiet) (d : Nat) :
    (s.door d).state = .idle ∧ (s.door d).notices = [] ∧ (s.door d).period = none ∧ (s.door d).openTimer = none ∧
      (s.door d).runOn = none ∧ (s.door d).signalLost = none :=
  getD_of_forall q.doors.2 ⟨rfl, rfl, rfl, rfl, rfl, rfl⟩ d

theorem State.Quiet.schedule {s : State} (q : s.Quiet) (n : Nat) :
    (s.schedule n).periodTimer = none ∧ (s.schedule n).spacing = none :=
  getD_of_forall q.composer.2.2 ⟨rfl, rfl⟩ n

theorem onBus_of_init {s : State} (h : s.phase = .init) (p : PortId) : s.onBus p = false := by
  simp [State.onBus, h]

theorem endAttempt_of_none {s : State} {p : PortId} (h : (s.port p).offer = none) : endAttempt p s = s := by
  have same : { s.port p with offer := none } = s.port p := by rw [← h]
  rw [endAttempt, same]
  cases p <;> rfl

/-- In a quiet INIT every command but a start and its end finds a FIFO, a queue or a timer empty. -/
theorem exec_of_quiet (c : Instr) (s : State) (hi : s.phase = .init) (q : s.Quiet) (hw : c.wellFormed = true)
    (h1 : c ≠ .powerOn) (h2 : c ≠ .resetPin) (h3 : c ≠ .initEnd) : exec c s = .next s := by
  obtain ⟨noFrames, noRequest, noTimer, noStore, noSwitch⟩ :=
    show s.binder = [] ∧ s.mgmt.captured = [] ∧ s.mgmt.timer = none ∧ s.mgmt.store = none ∧ s.mgmt.switch = none from
      ⟨q.binder, q.mgmt⟩
  obtain ⟨noLine, noBudget, noDelay, noBreak⟩ := q.supply
  obtain ⟨noComposerNotice, noPublication, -⟩ := q.composer
  obtain ⟨noStackNotice, noHandOff, noEntry⟩ := q.overrides
  cases c with
  | powerOn => exact absurd rfl h1
  | resetPin => exact absurd rfl h2
  | initEnd => exact absurd rfl h3
  | frameReception p f =>
    have hf : f.wellFormed = true := hw
    simp [exec, execFrameReception, hf, onBus_of_init hi]
  | rxError p => simp [exec, execRxError, onBus_of_init hi]
  | transmitAttempt p => simp [exec, execTransmitAttempt, onBus_of_init hi]
  | arbitrationLost p => exact congrArg _ (endAttempt_of_none (q.port p).2.1)
  | transmitComplete p => simp [exec, execTransmitComplete, (q.port p).2.1]
  | transmitError p => simp [exec, execTransmitError, (q.port p).2.1]
  | busOffHoldExpiry p => exact onExpiry_of_none (q.port p).2.2 _ _
  | frameClassify => simp [exec, execFrameClassify, hi]
  | binderRun => simp [exec, execBinderRun, noFrames]
  | stalenessExpiry i => exact onExpiry_of_none (getD_of_forall q.slots rfl _) _ _
  | vehicleModeNotice => simp [exec, execVehicleModeNotice, q.notices]
  | zoneStep z => exact onExpiry_of_none (q.zone z).1 _ _
  | storageHoldExpiry z => exact onExpiry_of_none (q.zone z).2 _ _
  | doorPeriod d => exact onExpiry_of_none (q.door d).2.2.1 _ _
  | doorOpenNotice d => simp [exec, execDoorOpenNotice, (q.door d).2.1]
  | releaseNotice d => simp [exec, execReleaseNotice, (q.door d).2.1]
  | openTimerExpiry d => exact onExpiry_of_none (q.door d).2.2.2.1 _ _
  | runOnExpiry d => exact onExpiry_of_none (q.door d).2.2.2.2.1 _ _
  | signalLostExpiry d => exact onExpiry_of_none (q.door d).2.2.2.2.2 _ _
  | doorClimateNotice => simp [exec, execDoorClimateNotice, q.doors.1]
  | screenEvaluation k => exact onExpiry_of_none (getD_of_forall q.screens.2 rfl _) _ _
  | screenClimateNotice => simp [exec, execScreenClimateNotice, q.screens.1]
  | lineWriteNotice => simp [exec, execLineWriteNotice, noLine]
  | lineLeaveNotice => simp [exec, execLineLeaveNotice, noLine]
  | poleChangeNotice => simp [exec, execPoleChangeNotice, noLine]
  | resumeDelayExpiry => exact onExpiry_of_none noDelay _ _
  | longBreakExpiry => exact onExpiry_of_none noBreak _ _
  | budgetTimerExpiry => exact onExpiry_of_none noBudget _ _
  | publicationTake => simp [exec, execPublicationTake, noPublication]
  | composerClimateNotice => simp [exec, execComposerClimateNotice, noComposerNotice]
  | framePeriodExpiry n => exact onExpiry_of_none (q.schedule n).1 _ _
  | spacingExpiry n => exact onExpiry_of_none (q.schedule n).2 _ _
  | push | pop | remove | clear | deskReject => exact takeDesk_of_nil noHandOff _
  | lifetimeExpiry p => exact onExpiry_of_none (by simp [entryTimer, noEntry]) _ _
  | stackClimateNotice => simp [exec, execStackClimateNotice, noStackNotice]
  | loadData => simp [exec, execLoadData, noRequest]
  | loadTimerExpiry => exact onExpiry_of_none noTimer _ _
  | storeWriteEnd failed => simp [exec, execStoreWriteEnd, noStore]
  | storeTimeout => exact onExpiry_of_none (by simp [storeDeadline, noStore]) _ _
  | unknownRequest => simp [exec, execUnknownRequest, noRequest]
  | switchTimerExpiry => exact onExpiry_of_none (by simp [switchTimer, noSwitch]) _ _
  | readRecord | readState | loadBegin | abortLoad | activate | store | forceOutput | releaseOutput | setFramePeriod
  | clearCounters | clearEvents | reportEnable | reportDisable | resume | reset => exact takeRequest_of_nil noRequest _ _

theorem State.Quiet.setPending {s : State} (q : s.Quiet) (rest : List Instr) : (s.setPending rest).Quiet :=
  ⟨q.bp, q.fp, q.binder, q.slots, q.notices, q.zones, q.doors, q.screens, q.supply, q.composer, q.overrides, q.mgmt⟩

theorem State.Quiet.elapse {s : State} (q : s.Quiet) (ms : Nat) : (s.elapse ms).Quiet :=
  ⟨q.bp, q.fp, q.binder, q.slots, q.notices, q.zones, q.doors, q.screens, q.supply, q.composer, q.overrides, q.mgmt⟩

theorem State.InitQuiet.setPending {s : State} (h : s.InitQuiet) (rest : List Instr) : (s.setPending rest).InitQuiet :=
  fun hi => (h hi).setPending rest

theorem Started.quiet {s t : State} (h : Started s t) : t.Quiet := by
  obtain ⟨cause, u, -, -, rfl⟩ := h
  exact startPart_quiet _ _

theorem exec_keeps_initQuiet {c : Instr} {s t : State} (hs : s.InitQuiet) (h : exec c s = .next t) : t.InitQuiet := by
  intro hi
  rcases exec_cases h with started | only
  · exact started.quiet
  · by_cases hc : c = .initEnd
    · subst hc
      cases hp : s.phase <;> simp only [exec, execInitEnd, hp] at h <;> obtain rfl := Host.Outcome.next.inj h
      · cases hi
      · rw [hp] at hi; cases hi
    · have hp : s.phase = .init := by
        have same : t.phase = s.phase := only .phase (by cases c <;> simp [partsOf] at hc ⊢)
        rw [← same, hi]
      by_cases h1 : c = .powerOn ∨ c = .resetPin
      · rcases h1 with rfl | rfl <;> obtain rfl := Host.Outcome.next.inj h <;> exact startPart_quiet _ _
      · have hw : c.wellFormed = true := by
          refine Decidable.byContradiction fun hw => ?_
          rw [(stopsOnlyOnIllFormedFrame c s).2 (by simpa using hw)] at h
          cases h
        rw [not_or] at h1
        rw [exec_of_quiet c s hp (hs hp) hw h1.1 h1.2 hc] at h
        obtain rfl := Host.Outcome.next.inj h
        exact hs hp

/-- Settles O8: only a start leads into INIT, and in INIT there is nothing for any other command to take. -/
theorem initStaysQuiet : Obligations.InitStaysQuiet := by
  refine ⟨fun s t hs h => ?_, exec_of_quiet⟩
  rcases step_cases h with rfl | ⟨c, rest, h⟩
  · exact fun hi => (hs hi).elapse _
  · exact exec_keeps_initQuiet (hs.setPending rest) h

end Sys2Proof.Machine
end

section
/-! PROOFS. Shapes: the tables and the image keep 11.3's record counts and sizes, every block its number of live records, and
the load what its state goes with (10.1, R165 to R168, R174). -/

namespace Sys2Proof.Machine

-- One theorem at a time: a thread for each of them at once would not fit into the checker's memory bound.
set_option Elab.async false

/-! ### Tables and image -/

theorem Tables.defaults_shaped : Tables.defaults.Shaped := by
  intro k
  rw [Tables.defaults, Tables.get_build]
  refine ⟨List.length_replicate, fun r hr => ?_⟩
  rw [List.eq_of_mem_replicate hr]
  cases k <;> rfl

/-- Tables built from shaped ones, table by table, are shaped. -/
theorem Tables.build_shaped {f : TableId → List Rec}
    (h : ∀ k, (f k).length = k.count ∧ ∀ r ∈ f k, r.length = k.size) : (Tables.build f).Shaped := by
  intro k
  rw [Tables.get_build]
  exact h k

theorem Image.loaded_shaped {im : Image} (h : im.stored.Shaped) : im.loaded.Shaped := by
  refine Tables.build_shaped fun k => ?_
  split
  · exact h k
  · exact Tables.defaults_shaped k

/-- The shape of an image: seven accept codes and shaped stored tables. -/
def Image.Shaped (im : Image) : Prop := im.stored.Shaped ∧ im.codes.length = 7

theorem imageWritten_shaped {im : Image} {live : Tables} (h : im.Shaped) (hl : live.Shaped) (mask : BitVec 7) :
    (imageWritten im mask live).Shaped := by
  refine ⟨Tables.build_shaped fun k => ?_, by simp [imageWritten]⟩
  split
  · exact hl k
  · exact h.1 k

theorem imageBroken_shaped {im : Image} {live : Tables} (h : im.Shaped) (hl : live.Shaped) (mask : BitVec 7)
    (step : StoreStep) (free : Nat) : (imageBroken im mask live step free).Shaped := by
  have rewritten := (imageWritten_shaped h hl mask).1
  refine ⟨?_, by simp [imageBroken]⟩
  cases step with
  | eraseSignature | clearCodes | writeTables => exact h.1
  | setCodes | writeSignature => exact rewritten

theorem imageAtReset_shaped {s : State} (h : s.image.Shaped) (ht : s.tables.Shaped) : (imageAtReset s).Shaped := by
  unfold imageAtReset
  split
  · exact imageBroken_shaped h ht _ _ _
  · exact h

theorem endStore_image (im : Image) (st : Status) (s : State) : (endStore im st s).image = im := by
  simp [endStore]

theorem storeEnds_image_shaped {s : State} (h : s.image.Shaped) (ht : s.tables.Shaped) (failed : Option StoreStep)
    (w : StoreRun) : (storeEnds failed w s).image.Shaped := by
  unfold storeEnds
  split
  · rw [endStore_image]; exact imageWritten_shaped h ht _
  · rw [State.setFreeIndex_image, endStore_image]; exact imageBroken_shaped h ht _ _ _

/-! ### The merged table -/

theorem bufferRecord_length {buffer : List Byte} {size count k : Nat} (hb : buffer.length = count * size)
    (hk : k < count) : (bufferRecord buffer size k).length = size := by
  have fits : k * size + size ≤ count * size := by
    calc k * size + size = (k + 1) * size := (Nat.succ_mul k size).symm
      _ ≤ count * size := Nat.mul_le_mul_right size hk
  simp only [bufferRecord, List.length_take, List.length_drop]
  omega

/-- A full buffer's records have the table's size, so the merged table is as long and as wide as the live one. -/
theorem mergedTable_shaped {live : List Rec} {w : LoadWindow} {buffer : List Byte}
    (hl : live.length = w.table.count ∧ ∀ r ∈ live, r.length = w.table.size) (hb : buffer.length = w.total) :
    (mergedTable live w buffer).length = w.table.count ∧ ∀ r ∈ mergedTable live w buffer, r.length = w.table.size := by
  refine ⟨by simpa [mergedTable] using hl.1, fun r hr => ?_⟩
  obtain ⟨i, hi, rfl⟩ := List.mem_mapIdx.1 hr
  split
  · rename_i inside
    exact bufferRecord_length hb (by omega)
  · exact hl.2 _ (List.getElem_mem hi)

theorem Tables.get_set (t : Tables) (k j : TableId) (recs : List Rec) :
    (t.set k recs).get j = if j = k then recs else t.get j := Tables.get_build _ _

theorem Tables.set_shaped {t : Tables} (h : t.Shaped) {k : TableId} {recs : List Rec}
    (hr : recs.length = k.count ∧ ∀ r ∈ recs, r.length = k.size) : (t.set k recs).Shaped := by
  refine Tables.build_shaped fun j => ?_
  split
  · rename_i e; exact e ▸ hr
  · exact h j

/-! ### The load -/

theorem loadShaped_supported : Supported (fun s => s.mgmt.LoadShaped) [.load] := by
  intro s t same h
  obtain ⟨hl, hw, hb, he, ht⟩ := same .load (by simp)
  simpa only [Management.LoadShaped, hl, hw, hb, he, ht] using h

theorem emptyLoad_loadShaped {s : State} (h : s.mgmt.LoadShaped) : (emptyLoad s).mgmt.LoadShaped :=
  ⟨h.1, rfl, rfl, rfl⟩

theorem LoadWindow.Fits.total_pos {w : LoadWindow} (h : w.Fits) : 0 < w.total := by
  have size : 0 < w.table.size := by cases w.table <;> decide
  exact Nat.mul_pos h.1 size

theorem beginLoad_loadShaped {w : LoadWindow} (hw : w.Fits) (s : State) : (beginLoad w s).mgmt.LoadShaped :=
  ⟨by simp [beginLoad], rfl, w, rfl, hw, hw.total_pos⟩

theorem failLoad_loadShaped {s : State} (h : s.mgmt.LoadShaped) (cause : FailureCause) :
    (failLoad cause s).mgmt.LoadShaped :=
  loadShaped_supported.of_only (raise_only _ _) (s := s.setMgmt _) ⟨h.1, rfl⟩

theorem appendPayload_loadShaped {s : State} {w : LoadWindow} (hw : s.mgmt.window = some w) (fits : w.Fits)
    (payload : List Byte) : (appendPayload payload s).mgmt.LoadShaped := by
  have total : loadTotal s = w.total := by simp [loadTotal, hw]
  refine loadShaped_supported.of_only (raiseWhen_only _ _ _) (s := s.setMgmt _) ⟨?expected, ?state⟩
  case expected => simp only [State.setMgmt_mgmt]; omega
  case state =>
    have short : ((s.mgmt.buffer ++ payload).take (loadTotal s)).length ≤ w.total := by
      rw [← total]; exact List.length_take_le _ _
    simp only [State.setMgmt_mgmt]
    by_cases complete : loadTotal s ≤ ((s.mgmt.buffer ++ payload).take (loadTotal s)).length
    · simp only [complete, if_true]
      exact ⟨trivial, w, hw, fits, by omega⟩
    · simp only [complete, if_false]
      exact ⟨rfl, w, hw, fits, by omega⟩

theorem takeLoadData_loadShaped {s : State} (h : s.mgmt.LoadShaped) (data : List Byte) :
    (takeLoadData data s).mgmt.LoadShaped := by
  unfold takeLoadData
  split
  · rename_i loading
    obtain ⟨-, state⟩ := id h
    simp only [loading] at state
    obtain ⟨-, w, hw, fits, -⟩ := state
    split
    · exact appendPayload_loadShaped hw fits _
    · exact failLoad_loadShaped h _
  all_goals exact h

/-! ### Tables and load under a request -/

/-- What an activation and the requests of a load read and change: shaped tables, and a load that fits its state. -/
def LoadableShaped (s : State) : Prop := s.tables.Shaped ∧ s.mgmt.LoadShaped

theorem loadableShaped_supported : Supported LoadableShaped [.tables, .load] := by
  rintro s t same ⟨ht, hl⟩
  refine ⟨?_, loadShaped_supported s t (fun p hp => same p (List.mem_cons_of_mem _ hp)) hl⟩
  rw [show t.tables = s.tables from same .tables (by simp)]
  exact ht

theorem activateComplete_loadableShaped {s : State} {w : LoadWindow} (h : LoadableShaped s)
    (hb : s.mgmt.buffer.length = w.total) : LoadableShaped (activateComplete w s) := by
  have answered {t : State} (k : LoadableShaped t) (st : Status) : LoadableShaped (reply 4 st t) :=
    loadableShaped_supported.of_only (reply_only _ _ _) k
  let merged := mergedTable (s.tables.get w.table) w s.mgmt.buffer
  have replaced : LoadableShaped (s.setTables (s.tables.set w.table merged)) :=
    ⟨Tables.set_shaped h.1 (mergedTable_shaped (h.1 _) hb), h.2⟩
  have live : LoadableShaped (goLive w merged s) :=
    loadableShaped_supported.of_only (takeActivation_only w _) replaced (by cases w.table <;> decide)
  have emptied : LoadableShaped (emptyLoad (goLive w merged s)) := ⟨live.1, emptyLoad_loadShaped live.2⟩
  unfold activateComplete activateWindow
  dsimp only
  split
  · split
    · exact loadableShaped_supported.of_only (replyThenSwitch_only _ _ _) emptied
    · exact answered emptied _
  · exact answered (t := emptyLoad s) ⟨h.1, emptyLoad_loadShaped h.2⟩ _

theorem serveActivate_loadableShaped {s : State} (h : LoadableShaped s) (data : List Byte) :
    LoadableShaped (serveActivate data s) := by
  have answered (st : Status) : LoadableShaped (reply 4 st s) :=
    loadableShaped_supported.of_only (reply_only _ _ _) h
  unfold serveActivate
  split
  · exact answered _
  · rename_i w _ complete window
    obtain ⟨-, -, state⟩ := id h
    simp only [complete, window] at state
    obtain ⟨-, v, hv, -, full⟩ := state
    obtain rfl := Option.some.inj hv
    split
    · exact activateComplete_loadableShaped h full
    · exact answered _
  · exact answered _

theorem serveLoadBegin_loadableShaped {s : State} (h : LoadableShaped s) (data : List Byte) :
    LoadableShaped (serveLoadBegin data s) := by
  have answered {t : State} (k : LoadableShaped t) (st : Status) : LoadableShaped (reply 3 st t) :=
    loadableShaped_supported.of_only (reply_only _ _ _) k
  unfold serveLoadBegin
  split
  · exact answered h _
  · split
    · exact answered h _
    · split
      · rename_i table _ fits
        have window : LoadWindow.Fits { table := table, first := u8 data 2, count := u8 data 3 } := fits
        exact answered (t := beginLoad _ s) ⟨h.1, beginLoad_loadShaped window s⟩ _
      · exact answered h _

/-- A request leads from `P` to `R` when its service does, a BUSY reply and the frame's taking touching neither. -/
theorem takeRequest_leads {P R : State → Prop} {ps : List Part} (hP : Supported P ps) (hPR : ∀ s, P s → R s) {code : Nat}
    {serve : List Byte → State → State} (hs : ∀ data s, P s → R (serve data s)) {s t : State} (p : P s)
    (h : takeRequest code serve s = .next t) (hd : ∀ p ∈ ps, p ∉ [Part.bp, .fp] := by decide) : R t := by
  have dropped (rest : List Captured) : P (dropCaptured rest s) := hP.of_only (dropCaptured_only rest s) p (by simp)
  rcases takeRequest_cases code serve s with e | ⟨data, rest, -, -, -, ⟨-, e⟩ | ⟨-, e⟩⟩ <;>
    obtain rfl := Host.Outcome.next.inj (e.symm.trans h)
  · exact hPR _ p
  · exact hPR _ (hP.of_only (replyWith_only _ _ _ _) (dropped rest) hd)
  · exact hs _ _ (dropped rest)

/-- A request keeps what its service keeps. -/
theorem takeRequest_keeps {P : State → Prop} {ps : List Part} (hP : Supported P ps) {code : Nat}
    {serve : List Byte → State → State} (hs : ∀ data s, P s → P (serve data s)) {s t : State} (p : P s)
    (h : takeRequest code serve s = .next t) (hd : ∀ p ∈ ps, p ∉ [Part.bp, .fp] := by decide) : P t :=
  takeRequest_leads hP (fun _ p => p) hs p h hd

/-- An expiry keeps what its event keeps. -/
theorem onExpiry_keeps {P : State → Prop} {ps : List Part} (hP : Supported P ps) {k : State → State}
    (hk : ∀ s, P s → P (k s)) {timer : Timer} {s t : State} (p : P s) (h : onExpiry timer k s = .next t) : P t := by
  rcases onExpiry_cases timer k s with ⟨-, e⟩ | ⟨d, -, e⟩ <;> obtain rfl := Host.Outcome.next.inj (e.symm.trans h)
  · exact p
  · exact hk _ (hP.of_only (advanceTo_only s d) p (by simp))

theorem exec_keeps_loadableShaped {c : Instr} {s t : State} (hp : LoadableShaped s) (h : exec c s = .next t)
    (only : Only (partsOf c) s t) : LoadableShaped t := by
  cases c with
  | loadBegin => exact takeRequest_keeps loadableShaped_supported (fun d s k => serveLoadBegin_loadableShaped k d) hp h
  | abortLoad =>
    refine takeRequest_keeps loadableShaped_supported (fun _ s k => ?_) hp h
    exact loadableShaped_supported.of_only (reply_only _ _ _) (s := emptyLoad s) ⟨k.1, emptyLoad_loadShaped k.2⟩
  | activate => exact takeRequest_keeps loadableShaped_supported (fun d s k => serveActivate_loadableShaped k d) hp h
  | loadData =>
    refine ⟨?_, ?_⟩
    · rw [show t.tables = s.tables from only .tables (by simp [partsOf])]; exact hp.1
    · simp only [exec, execLoadData] at h
      split at h <;> obtain rfl := Host.Outcome.next.inj h
      · rename_i data rest captured
        exact takeLoadData_loadShaped (s := dropCaptured rest s) hp.2 data
      · exact hp.2
  | loadTimerExpiry =>
    refine onExpiry_keeps loadableShaped_supported (k := failLoad .timeout) (fun s k => ?_) hp h
    exact ⟨k.1, failLoad_loadShaped k.2 _⟩
  | _ => exact loadableShaped_supported.of_only only hp (by simp [partsOf])

/-! ### Every shape -/

theorem Only.image_shaped {ps : List Part} {s t : State} (h : Only ps s t) (hp : .image ∉ ps) (k : s.image.Shaped) :
    t.image.Shaped := by
  rw [show t.image = s.image from h .image hp]; exact k

theorem exec_keeps_imageShaped {c : Instr} {s t : State} (hi : s.image.Shaped) (ht : s.tables.Shaped)
    (h : exec c s = .next t) (only : Only (partsOf c) s t) : t.image.Shaped := by
  cases c with
  | storeWriteEnd failed =>
    simp only [exec, execStoreWriteEnd] at h
    split at h <;> obtain rfl := Host.Outcome.next.inj h
    · exact storeEnds_image_shaped hi ht _ _
    · exact hi
  | storeTimeout =>
    rcases onExpiry_cases (storeDeadline s) storeTimesOut s with ⟨-, e⟩ | ⟨d, -, e⟩ <;>
      obtain rfl := Host.Outcome.next.inj (e.symm.trans h)
    · exact hi
    · unfold storeTimesOut
      split
      · exact storeEnds_image_shaped (s := s.advanceTo d) hi ht _ _
      · exact hi
  | _ => exact only.image_shaped (by simp [partsOf]) hi

theorem startPart_shaped {cause : StartCause} {s : State} (h : s.image.Shaped) (ht : s.tables.Shaped) :
    (startPart cause s).Shaped := by
  have shaped := imageAtReset_shaped h ht
  exact { tables := Image.loaded_shaped shaped.1, stored := shaped.1, codes := shaped.2, slots := List.length_replicate,
          zones := rfl, doors := rfl, screens := rfl, outputs := rfl, schedule := by simp,
          load := ⟨show 0 < 256 by decide, rfl, rfl, rfl⟩ }

theorem State.shaped_iff (s : State) : s.Shaped ↔ LoadableShaped s ∧ s.image.Shaped ∧
    (s.slots.length = 96 ∧ s.regulator.zones.length = 8 ∧ s.doors.doors.length = 6 ∧ s.screens.channels.length = 2 ∧
      s.composer.outputs.length = 48 ∧ s.composer.schedules.length = 24) :=
  ⟨fun h => ⟨⟨h.tables, h.load⟩, ⟨h.stored, h.codes⟩, h.slots, h.zones, h.doors, h.screens, h.outputs, h.schedule⟩,
   fun ⟨⟨ht, hl⟩, ⟨hst, hc⟩, hs, hz, hd, hsc, ho, hn⟩ => ⟨ht, hst, hc, hs, hz, hd, hsc, ho, hn, hl⟩⟩

theorem shaped_supported : Supported State.Shaped [.tables, .image, .lengths, .load] := by
  intro s t same h
  rw [State.shaped_iff] at h ⊢
  obtain ⟨hl, hi, lengths⟩ := h
  obtain ⟨es, ez, ed, ec, eo, en⟩ := same .lengths (by simp)
  refine ⟨loadableShaped_supported s t (fun p hp => same p ((by decide : [Part.tables, .load] ⊆ _) hp)) hl, ?_, ?_⟩
  · rw [show t.image = s.image from same .image (by simp)]; exact hi
  · rw [es, ez, ed, ec, eo, en]; exact lengths

theorem exec_keeps_shaped {c : Instr} {s t : State} (hs : s.Shaped) (h : exec c s = .next t) : t.Shaped := by
  obtain ⟨hl, hi, lengths⟩ := (State.shaped_iff s).1 hs
  rcases exec_cases h with ⟨cause, u, hu, -, rfl⟩ | only
  · have image : u.image = s.image := hu .image (by decide)
    have tables : u.tables = s.tables := hu .tables (by decide)
    exact startPart_shaped (image ▸ hi) (tables ▸ hl.1)
  · obtain ⟨es, ez, ed, ec, eo, en⟩ := only .lengths (by cases c <;> simp [partsOf])
    refine (State.shaped_iff t).2 ⟨exec_keeps_loadableShaped hl h only, exec_keeps_imageShaped hi hl.1 h only, ?_⟩
    rw [es, ez, ed, ec, eo, en]; exact lengths

/-- Settles O10: only the load's requests and an ACTIVATE change tables or load, and only the end of an image write the image. -/
theorem shapesKept : Obligations.ShapesKept := fun _ _ hs h =>
  shaped_supported.step_keeps (Q := fun _ => True) (fun _ _ h => h) (fun _ _ _ _ => exec_keeps_shaped) trivial hs h

end Sys2Proof.Machine
end

section
/-! PROOFS. The ports (chapter 1): what keeps a port sound, for O11. -/

namespace Sys2Proof.Machine

-- One theorem at a time: a thread for each of them at once would not fit into the checker's memory bound.
set_option Elab.async false

/-! ### Counters and queues -/

theorem satAdd_le (c n : Nat) : satAdd c n ≤ 65535 := Nat.min_le_left _ _

theorem Counters.bounded_zero : ({} : Counters).Bounded := by
  unfold Counters.Bounded; decide

theorem ErrorState.ofCount_state {tec : Nat} (h : tec ≤ 256) :
    (ErrorState.ofCount tec = .active ↔ tec ≤ 127) ∧ (ErrorState.ofCount tec = .busOff ↔ tec = 256) := by
  have limits : Config.passiveThreshold = 128 ∧ Config.txErrorLimit = 256 := ⟨rfl, rfl⟩
  simp only [ErrorState.ofCount, limits.1, limits.2]
  split
  · exact ⟨by simp; omega, by simp; omega⟩
  · split
    · exact ⟨by simp; omega, by simp; omega⟩
    · exact ⟨by simp; omega, by simp; omega⟩

theorem OneOfEachOrigin.nil : OneOfEachOrigin [] := fun _ _ => Nat.zero_le _

theorem OneOfEachOrigin.tail {q : List QueuedFrame} (h : OneOfEachOrigin q) : OneOfEachOrigin q.tail := fun o ho =>
  Nat.le_trans ((List.tail_sublist q).filter _).length_le (h o ho)

theorem OneOfEachOrigin.singleton (x : QueuedFrame) : OneOfEachOrigin [x] := fun _ _ => List.length_filter_le _ _

/-- A frame whose origin is not in the queue can be appended. -/
theorem OneOfEachOrigin.append {q : List QueuedFrame} (h : OneOfEachOrigin q) {x : QueuedFrame}
    (hx : x.origin.coalesces = true → ∀ y ∈ q, y.origin ≠ x.origin) : OneOfEachOrigin (q ++ [x]) := by
  intro o ho
  rw [List.filter_append, List.length_append]
  by_cases e : x.origin = o
  · have none : q.filter (fun y => y.origin == o) = [] := by
      rw [List.filter_eq_nil_iff]
      exact fun y hy => by simpa [e] using hx (e ▸ ho) y hy
    simp [none, e]
  · simpa [e] using h o ho

/-- A coalescing put leaves every origin where it stands. -/
theorem map_replace_origins (q : List QueuedFrame) (x : QueuedFrame) :
    (q.map fun y => if y.origin = x.origin then x else y).map (·.origin) = q.map (·.origin) := by
  rw [List.map_map]
  refine List.map_congr_left fun y _ => ?_
  simp only [Function.comp_apply]
  split
  · rename_i e; exact e.symm
  · rfl

theorem length_filter_origin (q : List QueuedFrame) (o : Origin) :
    (q.filter fun y => y.origin == o).length = ((q.map (·.origin)).filter (· == o)).length := by
  rw [List.filter_map, List.length_map]; rfl

theorem OneOfEachOrigin.of_origins {q r : List QueuedFrame} (h : OneOfEachOrigin q)
    (e : r.map (·.origin) = q.map (·.origin)) : OneOfEachOrigin r := by
  intro o ho
  rw [length_filter_origin, e, ← length_filter_origin]
  exact h o ho

/-! ### One port -/

theorem Port.queue_setQueue (p : Port) (c d : TxClass) (q : List QueuedFrame) :
    (p.setQueue c q).queue d = if d = c then q else p.queue d := by
  cases c <;> cases d <;> rfl

theorem TxClass.capacity_urgent : TxClass.urgent.capacity = 8 := rfl
theorem TxClass.capacity_control : TxClass.control.capacity = 16 := rfl
theorem TxClass.capacity_bulk : TxClass.bulk.capacity = 16 := rfl

/-- What `Sound` says of one queue, whichever it is. -/
def Port.QueueSound (p : Port) (c : TxClass) : Prop :=
  (p.queue c).length ≤ c.capacity ∧ OneOfEachOrigin (p.queue c) ∧ (p.err = .busOff → p.queue c = [])

theorem Port.sound_iff (p : Port) : p.Sound ↔
    p.rx.length ≤ 32 ∧ (∀ c, p.QueueSound c) ∧ p.tec ≤ 256 ∧
    ((p.err = .active ↔ p.tec ≤ 127) ∧ (p.err = .busOff ↔ p.tec = 256)) ∧
    (p.err = .busOff ↔ p.hold.isSome = true) ∧ (p.err = .busOff → p.offer = none) ∧
    (∀ o, p.offer = some o → ∃ x rest, p.queue o.cls = x :: rest ∧ x.origin = o.carried.origin) ∧
    p.counters.Bounded := by
  constructor
  · intro h
    obtain ⟨urgent, control, bulk⟩ := h.origins
    refine ⟨h.rx, fun c => ?_, h.tec, h.state, h.hold, fun hb => (h.flushed hb).2.2.2, h.offer, h.counters⟩
    cases c with
    | urgent => exact ⟨h.urgent, urgent, fun hb => (h.flushed hb).1⟩
    | control => exact ⟨h.control, control, fun hb => (h.flushed hb).2.1⟩
    | bulk => exact ⟨h.bulk, bulk, fun hb => (h.flushed hb).2.2.1⟩
  · rintro ⟨hrx, hq, htec, hstate, hhold, hflushed, hoffer, hcounters⟩
    obtain ⟨⟨lu, ou, fu⟩, ⟨lc, oc, fc⟩, lb, ob, fb⟩ := And.intro (hq .urgent) (And.intro (hq .control) (hq .bulk))
    exact { rx := hrx, urgent := lu, control := lc, bulk := lb, tec := htec, state := hstate, hold := hhold,
            flushed := fun hb => ⟨fu hb, fc hb, fb hb, hflushed hb⟩, origins := ⟨ou, oc, ob⟩, offer := hoffer,
            counters := hcounters }

theorem Port.sound_empty : ({} : Port).Sound := by
  refine (Port.sound_iff _).2 ⟨by decide, fun c => ?_, by decide, ?_, by decide, fun _ => rfl, nofun, Counters.bounded_zero⟩
  · cases c <;> exact ⟨by decide, OneOfEachOrigin.nil, fun _ => rfl⟩
  · exact ErrorState.ofCount_state (Nat.zero_le _)

theorem Port.Sound.count {p : Port} (h : p.Sound) {c : Counters} (hc : c.Bounded) : { p with counters := c }.Sound :=
  { h with counters := hc }

theorem Port.Sound.receive {p : Port} (h : p.Sound) {rx : List Frame} (hr : rx.length ≤ 32) :
    { p with rx := rx }.Sound :=
  { h with rx := hr }

theorem Port.Sound.endAttempt {p : Port} (h : p.Sound) : { p with offer := none }.Sound :=
  { h with
    flushed := fun hb => ⟨(h.flushed hb).1, (h.flushed hb).2.1, (h.flushed hb).2.2.1, rfl⟩
    offer := fun _ e => by cases e }

/-- The queues changed by a put: one queue replaced, whose first frame keeps its origin. -/
theorem Port.Sound.setQueue {p : Port} (h : p.Sound) (hb : p.err ≠ .busOff) {c : TxClass} {q : List QueuedFrame}
    (hl : q.length ≤ c.capacity) (ho : OneOfEachOrigin q)
    (hh : ∀ x rest, p.queue c = x :: rest → ∃ y more, q = y :: more ∧ y.origin = x.origin) : (p.setQueue c q).Sound := by
  obtain ⟨hrx, hq, htec, hstate, hhold, -, hoffer, hcounters⟩ := (Port.sound_iff p).1 h
  refine (Port.sound_iff _).2 ⟨hrx, fun d => ?_, htec, hstate, hhold, fun e => absurd e hb, fun o e => ?_, hcounters⟩
  · unfold Port.QueueSound
    rw [Port.queue_setQueue]
    split
    · rename_i e; exact ⟨e ▸ hl, ho, fun e => absurd e hb⟩
    · exact hq d
  · obtain ⟨x, rest, hx, origin⟩ := hoffer o e
    rw [Port.queue_setQueue]
    split
    · rename_i e
      obtain ⟨y, more, hy, same⟩ := hh x rest (e ▸ hx)
      exact ⟨y, more, hy, same.trans origin⟩
    · exact ⟨x, rest, hx, origin⟩

/-- An accepted put of a coalescing origin finds no frame of that origin queued. -/
theorem Port.outcome_accepted {p : Port} {c : TxClass} {o : Origin} (h : p.outcome c o = .accepted)
    (ho : o.coalesces = true) : ∀ y ∈ p.queue c, y.origin ≠ o := by
  intro y hy e
  have queued : (p.queue c).any (fun q => q.origin == o) = true := List.any_eq_true.2 ⟨y, hy, by simpa using e⟩
  simp only [Port.outcome, ho, queued, Bool.and_self, if_true] at h
  split at h <;> cases h

theorem Port.Sound.put {p : Port} (h : p.Sound) (c : TxClass) (x : QueuedFrame) : (p.put c x).Sound := by
  obtain ⟨-, hq, -⟩ := (Port.sound_iff p).1 h
  obtain ⟨room, origins, -⟩ := hq c
  rcases p.put_cases c x with ⟨accepted, hb, hl, e⟩ | ⟨-, hb, e⟩ | ⟨-, e⟩ <;> rw [e]
  · refine h.setQueue hb (by rw [List.length_append]; exact hl) (origins.append (Port.outcome_accepted accepted)) fun y rest hy => ?_
    exact ⟨y, rest ++ [x], by rw [hy]; rfl, rfl⟩
  · refine h.setQueue hb (by simpa using room) (origins.of_origins (map_replace_origins _ _)) fun y rest hy => ?_
    rw [hy]
    refine ⟨_, _, List.map_cons, ?_⟩
    split
    · rename_i e; exact e.symm
    · rfl
  · exact h.count { h.counters with right.right.right.right.right.right.left := satAdd_le _ _ }

theorem Port.Puts.sound {p q : Port} (h : p.Puts q) (hp : p.Sound) : q.Sound := by
  induction h with
  | refl => exact hp
  | andPut _ c x ih => exact ih.put c x

theorem Port.choice_head {p : Port} {o : Offer} (h : p.choice = some o) : ∃ rest, p.queue o.cls = o.carried :: rest := by
  unfold Port.choice at h
  split at h
  case h_1 x rest urgent => obtain rfl := Option.some.inj h; exact ⟨rest, urgent⟩
  case h_2 x rest _ control => obtain rfl := Option.some.inj h; exact ⟨rest, control⟩
  case h_3 x rest _ _ bulk => obtain rfl := Option.some.inj h; exact ⟨rest, bulk⟩
  case h_4 => cases h

theorem Port.Sound.beginAttempt {p : Port} (h : p.Sound) (hb : p.err ≠ .busOff) :
    { p with offer := match p.offer with
      | some o => some o
      | none => p.choice }.Sound := by
  refine { h with flushed := fun e => absurd e hb, offer := fun o e => ?_ }
  dsimp only at e
  split at e
  · rename_i old
    exact h.offer o (old.trans e)
  · obtain ⟨rest, hr⟩ := Port.choice_head e
    exact ⟨o.carried, rest, hr, rfl⟩

theorem Port.Sound.not_busOff {p : Port} (h : p.Sound) {o : Offer} (ho : p.offer = some o) : p.err ≠ .busOff := by
  intro hb
  rw [(h.flushed hb).2.2.2] at ho
  cases ho

/-- A port whose error state is the one of a new count below the limit; it was not BUS_OFF before. -/
theorem Port.Sound.recount {p : Port} (h : p.Sound) (hb : p.err ≠ .busOff) {tec : Nat} (ht : tec < 256) :
    { p with offer := none, tec := tec, err := ErrorState.ofCount tec }.Sound := by
  have le := Nat.le_of_lt ht
  have running := mt (ErrorState.ofCount_state le).2.1 (Nat.ne_of_lt ht)
  have unheld : p.hold.isSome ≠ true := mt h.hold.2 hb
  exact { h with
    tec := le
    state := ErrorState.ofCount_state le
    hold := iff_of_false running unheld
    flushed := fun e => absurd e running
    offer := fun _ e => by cases e }

theorem Port.Sound.tail {p : Port} (h : p.Sound) (hb : p.err ≠ .busOff) (ho : p.offer = none) (c : TxClass) :
    (p.setQueue c (p.queue c).tail).Sound := by
  obtain ⟨hrx, hq, htec, hstate, hhold, -, -, hcounters⟩ := (Port.sound_iff p).1 h
  refine (Port.sound_iff _).2 ⟨hrx, fun d => ?_, htec, hstate, hhold, fun e => absurd e hb, fun o e => ?_, hcounters⟩
  · unfold Port.QueueSound
    rw [Port.queue_setQueue]
    split
    · rename_i e
      obtain ⟨room, origins, -⟩ := hq c
      rw [e]
      exact ⟨by simp; omega, origins.tail, fun e => absurd e hb⟩
    · exact hq d
  · rw [show (p.setQueue c (p.queue c).tail).offer = p.offer from rfl, ho] at e
    cases e

theorem Port.Sound.sent {p : Port} (h : p.Sound) {o : Offer} (ho : p.offer = some o) : (p.sent o.cls).Sound := by
  have below : p.tec < 256 := Nat.lt_of_le_of_ne h.tec (mt h.state.2.2 (h.not_busOff ho))
  have lowered : p.tec - 1 < 256 := by omega
  have recounted := h.recount (h.not_busOff ho) lowered
  have running := mt (ErrorState.ofCount_state (Nat.le_of_lt lowered)).2.1 (Nat.ne_of_lt lowered)
  have shortened := recounted.tail running rfl o.cls
  have counted := shortened.count (c := { p.counters with txSent := satAdd p.counters.txSent 1 })
    { h.counters with right.right.right.right.left := satAdd_le _ _ }
  cases hc : o.cls <;> rw [hc] at counted <;> exact counted

theorem Port.Sound.txFailed {p : Port} (h : p.Sound) {o : Offer} (ho : p.offer = some o)
    (below : p.tec + Config.txErrorIncrement < 256) : p.txFailed.Sound :=
  (h.recount (h.not_busOff ho) below).count { h.counters with right.right.right.right.right.left := satAdd_le _ _ }

theorem Port.Sound.fellOff {p : Port} (h : p.Sound) (d : Nat) : (p.fellOff (some d)).Sound where
  rx := h.rx
  urgent := Nat.zero_le _
  control := Nat.zero_le _
  bulk := Nat.zero_le _
  tec := Nat.le_refl 256
  state := ErrorState.ofCount_state (Nat.le_refl 256)
  hold := iff_of_true rfl rfl
  flushed := fun _ => ⟨rfl, rfl, rfl, rfl⟩
  origins := ⟨.nil, .nil, .nil⟩
  offer := fun _ e => by cases e
  counters := { h.counters with
    right.right.right.right.right.left := satAdd_le _ _
    right.right.right.right.right.right.right := ⟨satAdd_le _ _, satAdd_le _ _⟩ }

theorem Port.Sound.rejoin {p : Port} (h : p.Sound) : { p with tec := 0, err := .active, hold := none }.Sound :=
  { h with
    tec := Nat.zero_le _
    state := ErrorState.ofCount_state (Nat.zero_le _)
    hold := iff_of_false nofun nofun
    flushed := fun e => by cases e }

theorem Port.Sound.clearedWhen {p : Port} (h : p.Sound) (c : Bool) : (p.clearedWhen c).Sound := by
  unfold Port.clearedWhen
  split
  · exact h.count Counters.bounded_zero
  · exact h

/-! ### Both ports -/

theorem State.PortsSound.port {s : State} (h : s.PortsSound) (p : PortId) : (s.port p).Sound := by
  cases p
  · exact h.1
  · exact h.2

theorem State.PortsSound.setPort {s : State} (h : s.PortsSound) (p : PortId) {x : Port} (hx : x.Sound) :
    (s.setPort p x).PortsSound := by
  cases p
  · exact ⟨hx, h.2⟩
  · exact ⟨h.1, hx⟩

theorem portsSound_supported : Supported State.PortsSound [.ports] := fun _ _ same h =>
  have puts := same .ports (by simp)
  ⟨puts.1.sound h.1, puts.2.sound h.2⟩

theorem countLengthShort_portsSound {s : State} (h : s.PortsSound) (p : PortId) : (countLengthShort p s).PortsSound :=
  portsSound_supported.of_only (raise_only _ _) <| h.setPort p <| (h.port p).count
    { (h.port p).counters with right.right.right.left := satAdd_le _ _ }

theorem receive_portsSound {s : State} (h : s.PortsSound) (p : PortId) (f : Frame) : (receive p f s).PortsSound := by
  have port := h.port p
  unfold receive
  dsimp only
  split
  · rename_i room
    have filled : ((s.port p).rx ++ [f]).length ≤ 32 := by
      have capacity : Config.rxCapacity = 32 := rfl
      simp; omega
    exact h.setPort p ((port.receive filled).count { port.counters with left := satAdd_le _ _ })
  · exact portsSound_supported.of_only (raise_only _ _) <| h.setPort p <| port.count
      { port.counters with right.left := satAdd_le _ _ }

theorem classify_portsSound {s : State} (h : s.PortsSound) (p : PortId) (f : Frame) : (classify p f s).PortsSound := by
  have disposed {t : State} (k : t.PortsSound) (d : Disposition) (u : Nat) : (dispose p f d u t).PortsSound :=
    portsSound_supported.of_only (dispose_only _ _ _ _ _) k
  have captured (c : Captured) : (capture c s).PortsSound := portsSound_supported.of_only (capture_only c s) h
  have entry (e : FrameEntry) : (classifyEntry p f e s).PortsSound := by
    refine disposed ?_ _ _
    split
    · exact portsSound_supported.of_only (handOff_only _ _ _ _) h
    · exact countLengthShort_portsSound h p
  unfold classify
  split
  · split
    · exact captured _
    · split
      · exact captured _
      · split
        · exact entry _
        · exact disposed h _ _
  · exact disposed h _ _

theorem execFrameClassify_portsSound {s t : State} (h : s.PortsSound) (e : execFrameClassify s = .next t) :
    t.PortsSound := by
  unfold execFrameClassify at e
  split at e
  · split at e <;> obtain rfl := Host.Outcome.next.inj e
    · rename_i p _ _ _ f rest hr
      have short : rest.length ≤ 32 := by
        have full := (h.port p).rx
        rw [hr] at full
        exact Nat.le_of_succ_le full
      have taken : (takeFrame p rest s).PortsSound := h.setPort p ((h.port p).receive short)
      exact classify_portsSound taken p f
    · exact h
  · obtain rfl := Host.Outcome.next.inj e
    exact h

theorem foldl_keeps {α : Type} {P : State → Prop} {f : State → α → State} (hf : ∀ s a, P s → P (f s a)) (as : List α)
    {s : State} (h : P s) : P (as.foldl f s) := by
  induction as generalizing s with
  | nil => exact h
  | cons a as ih => exact ih (hf s a h)

theorem runBinding_portsSound (h : HandOff) (s : State) (k : Nat) (hs : s.PortsSound) :
    (runBinding h s k).PortsSound := by
  unfold runBinding
  dsimp only
  split
  · exact hs
  · split
    · exact portsSound_supported.of_only (writeSlot_only _ _ _) hs
    · exact countLengthShort_portsSound hs _

theorem startPart_portsSound (cause : StartCause) (s : State) : (startPart cause s).PortsSound := by
  rw [startPart_eq]
  refine ⟨?_, Port.sound_empty⟩
  have empty := Port.sound_empty
  exact { empty with
    urgent := by simp
    flushed := fun e => by cases e
    origins := ⟨.singleton _, .nil, .nil⟩
    offer := fun _ e => by cases e }

theorem Started.portsSound {s t : State} (h : Started s t) : t.PortsSound := by
  obtain ⟨cause, u, -, -, rfl⟩ := h
  exact startPart_portsSound _ _

theorem reportCompletion_portsSound {s : State} (h : s.PortsSound) (x : QueuedFrame) :
    (reportCompletion x s).PortsSound := by
  rcases reportCompletion_cases x s with started | only
  · exact started.portsSound
  · exact portsSound_supported.of_only only h

theorem switchOnBusOff_portsSound {s : State} (h : s.PortsSound) : (switchOnBusOff s).PortsSound := by
  rcases switchOnBusOff_cases s with started | only
  · exact started.portsSound
  · exact portsSound_supported.of_only only h

theorem transmitFails_portsSound {s : State} (h : s.PortsSound) {p : PortId} {o : Offer}
    (ho : (s.port p).offer = some o) : (transmitFails p s).PortsSound := by
  unfold transmitFails
  dsimp only
  split
  · rename_i below
    exact h.setPort p ((h.port p).txFailed ho below)
  · have off : (raise .busOff (s.setPort p ((s.port p).fellOff (s.startTimer Config.busOffHoldMs)))).PortsSound :=
      portsSound_supported.of_only (raise_only _ _) (h.setPort p ((h.port p).fellOff _))
    cases p with
    | bp => exact switchOnBusOff_portsSound off
    | fp => exact off

theorem exec_keeps_portsSound {c : Instr} {s t : State} (hs : s.PortsSound) (h : exec c s = .next t) :
    t.PortsSound := by
  have kept {t : State} (only : Only (partsOf c) s t) (hp : .ports ∉ partsOf c) : t.PortsSound :=
    portsSound_supported.of_only only hs (by simpa using hp)
  rcases exec_cases h with started | only
  · exact started.portsSound
  · cases c with
    | frameReception p f =>
      simp only [exec, execFrameReception] at h
      split at h
      · obtain rfl := Host.Outcome.next.inj h
        split
        · exact receive_portsSound hs p f
        · exact hs
      · cases h
    | rxError p =>
      obtain rfl := Host.Outcome.next.inj h
      split
      · exact hs.setPort p ((hs.port p).count { (hs.port p).counters with right.right.left := satAdd_le _ _ })
      · exact hs
    | transmitAttempt p =>
      obtain rfl := Host.Outcome.next.inj h
      split
      · rename_i on
        exact hs.setPort p ((hs.port p).beginAttempt (by simp [State.onBus] at on; exact on.2))
      · exact hs
    | arbitrationLost p =>
      obtain rfl := Host.Outcome.next.inj h
      exact hs.setPort p (hs.port p).endAttempt
    | transmitComplete p =>
      simp only [exec, execTransmitComplete] at h
      split at h <;> obtain rfl := Host.Outcome.next.inj h
      · rename_i o ho
        exact reportCompletion_portsSound (hs.setPort p ((hs.port p).sent ho)) _
      · exact hs
    | transmitError p =>
      simp only [exec, execTransmitError] at h
      split at h <;> obtain rfl := Host.Outcome.next.inj h
      · rename_i o ho
        exact transmitFails_portsSound hs ho
      · exact hs
    | busOffHoldExpiry p =>
      exact onExpiry_keeps portsSound_supported (fun s k => k.setPort p (k.port p).rejoin) hs h
    | frameClassify => exact execFrameClassify_portsSound hs h
    | binderRun =>
      simp only [exec, execBinderRun] at h
      split at h <;> obtain rfl := Host.Outcome.next.inj h
      · exact foldl_keeps (runBinding_portsSound _) _ (s := s.setBinder _) hs
      · exact hs
    | clearCounters =>
      refine takeRequest_keeps portsSound_supported (fun data s k => ?_) hs h
      unfold serveClearCounters
      split
      · exact portsSound_supported.of_only (reply_only _ _ _) (s := clearCounters _ s)
          ⟨k.1.clearedWhen _, k.2.clearedWhen _⟩
      · exact portsSound_supported.of_only (reply_only _ _ _) k
    | _ => exact kept only (by simp [partsOf])

/-- Settles O11: queues change by puts, and every other change of a port is one of chapter 1's. -/
theorem portsSoundKept : Obligations.PortsSoundKept := fun _ _ hs h =>
  portsSound_supported.step_keeps (Q := fun _ => True) (fun _ _ h => h) (fun _ _ _ _ => exec_keeps_portsSound) trivial
    hs h

end Sys2Proof.Machine
end

section
/-! PROOFS. Timers (3.1.3, 5.1.3, 7.1): each runs only in the states that own it, for O12. -/

namespace Sys2Proof.Machine

-- One theorem at a time: a thread for each of them at once would not fit into the checker's memory bound.
set_option Elab.async false

/-! ### Keeping a predicate through the shared ways of a command -/

/-- An expiry keeps a predicate when its event does, which may rely on the timer's having run. -/
theorem onExpiry_keeps_running {P : State → Prop} {k : State → State} {timer : Timer} {s t : State} (p : P s)
    (h : onExpiry timer k s = .next t) (hk : ∀ d, timer = some d → P (k (s.advanceTo d))) : P t := by
  rcases onExpiry_cases timer k s with ⟨-, e⟩ | ⟨d, hd, e⟩ <;> obtain rfl := Host.Outcome.next.inj (e.symm.trans h)
  · exact p
  · exact hk d hd

/-- ACTIVATE leads from `P` to `R`, which replies and the load do not touch, when the replacing of a window does. -/
theorem serveActivate_leads {P R : State → Prop} {ps : List Part} (hR : Supported R ps) (hPR : ∀ s, P s → R s)
    (hgo : ∀ w buffer s, P s → R (goLive w (mergedTable (s.tables.get w.table) w buffer) s)) {s : State} (h : P s)
    (data : List Byte) (hd : ∀ p ∈ ps, p ∉ [Part.bp, .fp, .load] := by decide) : R (serveActivate data s) := by
  have unsent : ∀ p ∈ ps, p ∉ [Part.bp, .fp] := fun p hp hm => hd p hp (List.mem_append_left [Part.load] hm)
  have answered {t : State} (k : R t) (st : Status) : R (reply 4 st t) := hR.of_only (reply_only _ _ _) k unsent
  have emptied {t : State} (k : R t) : R (emptyLoad t) := hR.of_only (emptyLoad_only t) k fun p hp hm =>
    hd p hp (by simp_all)
  have complete (w : LoadWindow) : R (activateComplete w s) := by
    unfold activateComplete activateWindow
    dsimp only
    split
    · split
      · exact hR.of_only (replyThenSwitch_only _ _ _) (emptied (hgo w _ s h)) unsent
      · exact answered (emptied (hgo w _ s h)) _
    · exact answered (emptied (hPR s h)) _
  unfold serveActivate
  split
  · exact answered (hPR s h) _
  · split
    · exact complete _
    · exact answered (hPR s h) _
  · exact answered (hPR s h) _

theorem serveActivate_keeps {P : State → Prop} {ps : List Part} (hP : Supported P ps)
    (hgo : ∀ w buffer s, P s → P (goLive w (mergedTable (s.tables.get w.table) w buffer) s)) {s : State} (h : P s)
    (data : List Byte) (hd : ∀ p ∈ ps, p ∉ [Part.bp, .fp, .load] := by decide) : P (serveActivate data s) :=
  serveActivate_leads hP (fun _ p => p) hgo h data hd

/-- Replacing a window of a table keeps what neither the tables nor that table's block support. -/
theorem Supported.goLive {P : State → Prop} {ps : List Part} (hP : Supported P ps) {s : State} (h : P s)
    {w : LoadWindow} (merged : List Rec) (hd : ∀ p ∈ ps, p ∉ Part.tables :: w.table.parts) : P (goLive w merged s) :=
  hP.of_only (goLive_only w merged s) h hd

theorem forall_mem_set {α : Type} {P : α → Prop} {xs : List α} (h : ∀ x ∈ xs, P x) {y : α} (hy : P y) (i : Nat) :
    ∀ x ∈ xs.set i y, P x := by
  intro x hx
  rcases List.mem_or_eq_of_mem_set hx with hm | rfl
  · exact h x hm
  · exact hy

theorem forall_mem_mapIdx {α β : Type} {P : α → Prop} {Q : β → Prop} {xs : List α} {f : Nat → α → β}
    (h : ∀ x ∈ xs, P x) (hf : ∀ i x, P x → Q (f i x)) : ∀ y ∈ xs.mapIdx f, Q y := by
  intro y hy
  obtain ⟨i, hi, rfl⟩ := List.mem_mapIdx.1 hy
  exact hf i _ (h _ (List.getElem_mem hi))

/-! ### Slots -/

/-- Every slot's staleness timer runs in FRESH only. -/
def State.SlotTimersSound (s : State) : Prop := ∀ l ∈ s.slots, l.TimerSound

theorem SlotLive.timerSound_start : ({} : SlotLive).TimerSound := ⟨nofun, nofun⟩

theorem State.SlotTimersSound.slot {s : State} (h : s.SlotTimersSound) (i : Nat) : (s.slot i).TimerSound :=
  getD_of_forall h SlotLive.timerSound_start i

theorem State.SlotTimersSound.setSlot {s : State} (h : s.SlotTimersSound) (i : Nat) {l : SlotLive}
    (hl : l.TimerSound) : (s.setSlot i l).SlotTimersSound := forall_mem_set h hl i

theorem slotTimersSound_supported : Supported State.SlotTimersSound [.slots] := by
  intro s t same h
  rw [State.SlotTimersSound, show t.slots = s.slots from same .slots (by simp)]
  exact h

theorem writeSlot_slotTimersSound {s : State} (h : s.SlotTimersSound) (i : Nat) (v : Int) :
    (writeSlot i v s).SlotTimersSound := by
  unfold writeSlot
  split
  · have fresh : ((s.slot i).plausibleWrite (slotCfg s.tables i) v s.now).TimerSound := ⟨fun _ => rfl, fun _ => rfl⟩
    exact slotTimersSound_supported.of_only (sendNotices_only _ _ _ _) (h.setSlot i fresh)
  · have implausible : ((s.slot i).implausibleWrite v).TimerSound := ⟨nofun, nofun⟩
    exact slotTimersSound_supported.of_only (leaveNotice_only _ _ _) <|
      slotTimersSound_supported.of_only (raise_only _ _) (h.setSlot i implausible)

theorem runBinding_slotTimersSound (h : HandOff) (s : State) (k : Nat) (hs : s.SlotTimersSound) :
    (runBinding h s k).SlotTimersSound := by
  unfold runBinding
  dsimp only
  split
  · exact hs
  · split
    · exact writeSlot_slotTimersSound hs _ _
    · exact slotTimersSound_supported.of_only (countLengthShort_only _ _) hs

theorem staleSlot_slotTimersSound {s : State} (h : s.SlotTimersSound) (i : Nat) :
    (staleSlot i s).SlotTimersSound := by
  have stale : (s.slot i).expired.TimerSound := ⟨nofun, nofun⟩
  exact slotTimersSound_supported.of_only (leaveNotice_only _ _ _) <|
    slotTimersSound_supported.of_only (raise_only _ _) (h.setSlot i stale)

theorem activateSlots_slotTimersSound {s : State} (h : s.SlotTimersSound) (w : LoadWindow) :
    (activateSlots w s).SlotTimersSound := by
  have cleared : (s.setSlots (s.slots.mapIdx fun i l => if w.holds i then {} else l)).SlotTimersSound := by
    refine forall_mem_mapIdx h fun i l hl => ?_
    split
    · exact SlotLive.timerSound_start
    · exact hl
  unfold activateSlots
  dsimp only
  split
  · exact slotTimersSound_supported.of_only (leaveNotice_only _ _ _) cleared
  · exact cleared

theorem goLive_slotTimersSound {s : State} (h : s.SlotTimersSound) (w : LoadWindow) (merged : List Rec) :
    (goLive w merged s).SlotTimersSound := by
  by_cases hw : w.table = .slots
  · have cleared := activateSlots_slotTimersSound (s := s.setTables (s.tables.set w.table merged)) h w
    unfold goLive takeActivation
    split <;> simp_all only [reduceCtorEq]
    split
    · split
      · exact slotTimersSound_supported.of_only (deriveClimate_only _ _) cleared
      · exact cleared
    · exact cleared
  · refine slotTimersSound_supported.goLive h merged ?_
    cases hk : w.table <;> simp_all [TableId.parts]

theorem clearCounters_slotTimersSound {s : State} (h : s.SlotTimersSound) (port : Nat) :
    (clearCounters port s).SlotTimersSound := by
  intro l hl
  obtain ⟨m, hm, rfl⟩ := List.mem_map.1 hl
  exact h m hm

theorem exec_keeps_slotTimersSound {c : Instr} {s t : State} (hs : s.SlotTimersSound) (h : exec c s = .next t) :
    t.SlotTimersSound := by
  rcases exec_cases h with ⟨cause, u, -, -, rfl⟩ | only
  · intro l hl
    obtain rfl := List.eq_of_mem_replicate hl
    exact SlotLive.timerSound_start
  · cases c with
    | binderRun =>
      simp only [exec, execBinderRun] at h
      split at h <;> obtain rfl := Host.Outcome.next.inj h
      · exact foldl_keeps (runBinding_slotTimersSound _) _ (s := s.setBinder _) hs
      · exact hs
    | stalenessExpiry i =>
      exact onExpiry_keeps slotTimersSound_supported (fun s k => staleSlot_slotTimersSound k i) hs h
    | clearCounters =>
      refine takeRequest_keeps slotTimersSound_supported (fun data s k => ?_) hs h
      unfold serveClearCounters
      split
      · exact slotTimersSound_supported.of_only (reply_only _ _ _) (clearCounters_slotTimersSound k _)
      · exact slotTimersSound_supported.of_only (reply_only _ _ _) k
    | activate =>
      exact takeRequest_keeps slotTimersSound_supported (fun data s k => serveActivate_keeps slotTimersSound_supported
        (fun w _ _ k => goLive_slotTimersSound k w _) k data) hs h
    | _ => exact slotTimersSound_supported.of_only only hs (by simp [partsOf])

/-! ### Doors -/

/-- Every door's timers run in their states only. -/
def State.DoorTimersSound (s : State) : Prop := ∀ l ∈ s.doors.doors, l.TimersSound

theorem DoorLive.timersSound_start : ({} : DoorLive).TimersSound := ⟨nofun, nofun, nofun⟩

theorem State.DoorTimersSound.door {s : State} (h : s.DoorTimersSound) (d : Nat) : (s.door d).TimersSound :=
  getD_of_forall h DoorLive.timersSound_start d

theorem State.DoorTimersSound.setDoor {s : State} (h : s.DoorTimersSound) (d : Nat) {l : DoorLive}
    (hl : l.TimersSound) : (s.setDoor d l).DoorTimersSound := forall_mem_set h hl d

theorem doorTimersSound_supported : Supported State.DoorTimersSound [.doors] := by
  intro s t same h
  rw [State.DoorTimersSound, show t.doors.doors = s.doors.doors from same .doors (by simp)]
  exact h

/-- A stopped timer, told from the state that its running would need. -/
theorem timer_none_of {timer : Timer} {p : Prop} (h : timer.isSome = true → p) (hp : ¬p) : timer = none :=
  Option.not_isSome_iff_eq_none.1 (mt h hp)

/-- A door with neither open timer nor run-on timer, in a state other than FAULT. -/
theorem DoorLive.TimersSound.of_stopped {l : DoorLive} (ho : l.openTimer = none) (hr : l.runOn = none)
    (hf : l.state ≠ .fault) : l.TimersSound :=
  ⟨by rw [ho]; nofun, by rw [hr]; nofun, fun e => absurd e hf⟩

theorem settleDoor_timersSound {s : State} {d : Nat} {l : DoorLive} (h : l.TimersSound) :
    (settleDoor s d l).TimersSound := h

theorem enterOpen_timersSound (s : State) (d : Nat) (l : DoorLive) : (enterOpen s d l).TimersSound :=
  settleDoor_timersSound ⟨fun _ => rfl, nofun, nofun⟩

theorem enterRunOn_timersSound (s : State) (d : Nat) (l : DoorLive) : (enterRunOn s d l).TimersSound :=
  settleDoor_timersSound ⟨nofun, fun _ => rfl, nofun⟩

/-- A door between IDLE and READY: neither state owns a timer. -/
theorem DoorLive.TimersSound.move {l : DoorLive} (h : l.TimersSound) (hl : l.state = .idle ∨ l.state = .ready)
    {st : DoorState} (hst : st ≠ .fault) : { l with state := st }.TimersSound := by
  obtain ⟨ho, hr, -⟩ := h
  exact .of_stopped (timer_none_of ho (by rcases hl with e | e <;> simp [e]))
    (timer_none_of hr (by rcases hl with e | e <;> simp [e])) hst

theorem doorOpenActive_timersSound {s : State} {d : Nat} (h : (s.door d).TimersSound) (v : Int) :
    (doorOpenActive s d v).TimersSound := by
  obtain ⟨ho, hr, -⟩ := h
  have restarted (hst : (s.door d).state ≠ .fault) (timer : Timer) :
      { s.door d with signalLost := timer }.TimersSound := ⟨ho, hr, fun e => absurd e hst⟩
  unfold doorOpenActive
  dsimp only
  split <;> rename_i hst <;> split
  case h_1.isTrue | h_2.isTrue | h_5.isTrue | h_6.isTrue => exact enterOpen_timersSound _ _ _
  case h_3.isFalse | h_4.isFalse => exact enterRunOn_timersSound _ _ _
  case h_6.isFalse =>
    exact settleDoor_timersSound (.of_stopped (timer_none_of ho (by simp [hst])) (timer_none_of hr (by simp [hst])) nofun)
  all_goals exact restarted (by simp [hst]) _

theorem releaseActive_timersSound {s : State} {d : Nat} (h : (s.door d).TimersSound) (v : Int) :
    (releaseActive s d v).TimersSound := by
  unfold releaseActive
  dsimp only
  split
  · rename_i hst
    split
    · exact settleDoor_timersSound (h.move (.inl hst) nofun)
    · exact h
  · rename_i hst
    split
    · exact h
    · exact settleDoor_timersSound (h.move (.inr hst) nofun)
  all_goals exact h

theorem preOpen_timersSound {s : State} {d : Nat} {l : DoorLive} (h : l.TimersSound) :
    { l with state := preOpen s d l.state }.TimersSound := by
  unfold preOpen
  split
  · rename_i hst; exact h.move (.inl hst) (by split <;> nofun)
  · rename_i hst; exact h.move (.inr hst) (by split <;> nofun)
  · exact h

theorem payDebt_timersSound {s : State} {d : Nat} {l : DoorLive} (h : l.TimersSound) : (payDebt s d l).TimersSound := by
  unfold payDebt
  split <;> exact h

theorem doorPeriodActive_timersSound {s : State} {d : Nat} (h : (s.door d).TimersSound) :
    (doorPeriodActive s d).TimersSound := by
  have moved : (evaluateCurtain s { s.door d with state := preOpen s d (s.door d).state }).TimersSound :=
    preOpen_timersSound h
  exact payDebt_timersSound moved

theorem periodDoor_doorTimersSound {s : State} (h : s.DoorTimersSound) (d : Nat) :
    (periodDoor d s).DoorTimersSound := by
  refine h.setDoor d ?_
  split
  · exact doorPeriodActive_timersSound (h.door d)
  · exact h.door d

theorem openTimerEnds_doorTimersSound {s : State} (h : s.DoorTimersSound) {d : Nat}
    (running : (s.door d).openTimer.isSome = true) : (openTimerEnds d s).DoorTimersSound := by
  obtain ⟨ho, hr, -⟩ := h.door d
  exact h.setDoor d (settleDoor_timersSound (.of_stopped rfl (timer_none_of hr (by simp [ho running])) nofun))

theorem runOnEnds_doorTimersSound {s : State} (h : s.DoorTimersSound) {d : Nat}
    (running : (s.door d).runOn.isSome = true) : (runOnEnds d s).DoorTimersSound := by
  obtain ⟨ho, hr, -⟩ := h.door d
  exact h.setDoor d (settleDoor_timersSound (.of_stopped (timer_none_of ho (by simp [hr running])) rfl nofun))

theorem DoorLive.faulted_timersSound (l : DoorLive) : l.faulted.TimersSound := ⟨nofun, nofun, fun _ => rfl⟩

theorem DoorLive.cleared_timersSound (l : DoorLive) (period signalLost : Timer) :
    { l.cleared with period := period, signalLost := signalLost }.TimersSound := .of_stopped rfl rfl nofun

theorem doorAtClimate_timersSound (s : State) (c : Climate) (d : Nat) {l : DoorLive} (h : l.TimersSound) :
    (doorAtClimate s c d l).TimersSound := by
  unfold doorAtClimate
  split
  · cases c <;> exact l.cleared_timersSound _ _
  · exact h

theorem activatedDoor_timersSound (s : State) (d : Nat) (l : DoorLive) : (activatedDoor s d l).TimersSound := by
  unfold activatedDoor
  split <;> exact l.cleared_timersSound _ _

theorem goLive_doorTimersSound {s : State} (h : s.DoorTimersSound) (w : LoadWindow) (merged : List Rec) :
    (goLive w merged s).DoorTimersSound := by
  by_cases hw : w.table = .doors
  · unfold goLive takeActivation
    split <;> simp_all only [reduceCtorEq]
    refine forall_mem_mapIdx h fun d l hl => ?_
    split
    · exact activatedDoor_timersSound _ _ _
    · exact hl
  · refine doorTimersSound_supported.goLive h merged ?_
    cases hk : w.table <;> simp_all [TableId.parts]

theorem sendNotices_doorTimersSound {s : State} (h : s.DoorTimersSound) (i : Nat) (v : Int) (c : Bool) :
    (sendNotices i v c s).DoorTimersSound := forall_mem_mapIdx h fun _ _ hl => hl

theorem runBinding_doorTimersSound (h : HandOff) (s : State) (k : Nat) (hs : s.DoorTimersSound) :
    (runBinding h s k).DoorTimersSound := by
  unfold runBinding
  dsimp only
  split
  · exact hs
  · split
    · unfold writeSlot
      split
      · exact sendNotices_doorTimersSound (s := s.setSlot _ _) hs _ _ _
      · exact hs
    · exact hs

theorem dropDoorNotice_doorTimersSound {s : State} (h : s.DoorTimersSound) (d : Nat) (rest : List DoorNotice) :
    (dropDoorNotice d rest s).DoorTimersSound := h.setDoor d (h.door d)

/-- In a quiet INIT every door is IDLE, so that its signal-lost timer may start. -/
theorem endInit_doorTimersSound {s : State} (q : s.Quiet) : (endInit s).DoorTimersSound := by
  refine forall_mem_mapIdx q.doors.2 fun d l hl => ?_
  obtain ⟨idle, -, -, ho, hr, -⟩ := hl
  unfold doorAtInitEnd
  split
  · exact .of_stopped ho hr (by simp [idle])
  · exact .of_stopped ho hr (by simp [idle])

theorem exec_keeps_doorTimersSound {c : Instr} {s t : State} (q : s.InitQuiet) (hs : s.DoorTimersSound)
    (h : exec c s = .next t) : t.DoorTimersSound := by
  rcases exec_cases h with ⟨cause, u, -, -, rfl⟩ | only
  · intro l hl
    obtain rfl := List.eq_of_mem_replicate hl
    exact DoorLive.timersSound_start
  · cases c with
    | initEnd =>
      cases hp : s.phase <;> simp only [exec, execInitEnd, hp] at h <;> obtain rfl := Host.Outcome.next.inj h
      · exact endInit_doorTimersSound (q hp)
      · exact hs
    | binderRun =>
      simp only [exec, execBinderRun] at h
      split at h <;> obtain rfl := Host.Outcome.next.inj h
      · exact foldl_keeps (runBinding_doorTimersSound _) _ (s := s.setBinder _) hs
      · exact hs
    | doorPeriod d =>
      exact onExpiry_keeps doorTimersSound_supported (fun s k => periodDoor_doorTimersSound k d) hs h
    | doorOpenNotice d =>
      simp only [exec, execDoorOpenNotice] at h
      split at h <;> obtain rfl := Host.Outcome.next.inj h
      · have dropped := dropDoorNotice_doorTimersSound hs d ‹_›
        refine dropped.setDoor d ?_
        split
        · exact doorOpenActive_timersSound (dropped.door d) _
        · exact dropped.door d
      · exact hs
    | releaseNotice d =>
      simp only [exec, execReleaseNotice] at h
      split at h <;> obtain rfl := Host.Outcome.next.inj h
      · have dropped := dropDoorNotice_doorTimersSound hs d ‹_›
        refine dropped.setDoor d ?_
        split
        · exact releaseActive_timersSound (dropped.door d) _
        · exact dropped.door d
      · exact hs
    | openTimerExpiry d =>
      refine onExpiry_keeps_running hs h fun e he => ?_
      exact openTimerEnds_doorTimersSound (s := s.advanceTo e) hs (Option.isSome_of_eq_some he)
    | runOnExpiry d =>
      refine onExpiry_keeps_running hs h fun e he => ?_
      exact runOnEnds_doorTimersSound (s := s.advanceTo e) hs (Option.isSome_of_eq_some he)
    | signalLostExpiry d =>
      refine onExpiry_keeps doorTimersSound_supported (fun s k => ?_) hs h
      exact doorTimersSound_supported.of_only (raise_only _ _) (k.setDoor d (DoorLive.faulted_timersSound _))
    | doorClimateNotice =>
      simp only [exec, execDoorClimateNotice] at h
      split at h <;> obtain rfl := Host.Outcome.next.inj h
      · exact forall_mem_mapIdx hs fun d l hl => doorAtClimate_timersSound _ _ d hl
      · exact hs
    | activate =>
      exact takeRequest_keeps doorTimersSound_supported (fun data s k => serveActivate_keeps doorTimersSound_supported
        (fun w _ _ k => goLive_doorTimersSound k w _) k data) hs h
    | _ => exact doorTimersSound_supported.of_only only hs (by simp [partsOf])

/-! ### Supply unit -/

/-- Resume delay and long-break timer run in BREAK only. -/
def State.SupplyTimersSound (s : State) : Prop :=
  (s.supply.resumeDelay.isSome = true → s.supply.state = .breaking) ∧
  (s.supply.longBreak.isSome = true → s.supply.state = .breaking)

theorem supplyTimersSound_supported : Supported State.SupplyTimersSound [.supply] := by
  intro s t same h
  obtain ⟨est, edelay, ebreak⟩ := same .supply (by simp)
  simpa only [State.SupplyTimersSound, est, edelay, ebreak] using h

/-- An allocation takes RESUMING to ON_LINE, where no timer runs either, and stops no timer. -/
theorem allocate_supplyTimersSound {s : State} (h : s.SupplyTimersSound) (ramp : Bool) :
    (allocate ramp s).SupplyTimersSound := by
  obtain ⟨hdelay, hbreak⟩ := h
  have kept (e : s.supply.state = .breaking) : (allocate ramp s).supply.state = .breaking := by
    show (if s.supply.state = .resuming ∧ _ then SupplyState.onLine else s.supply.state) = .breaking
    rw [if_neg (by simp [e]), e]
  exact ⟨fun r => kept (hdelay r), fun r => kept (hbreak r)⟩

theorem State.SupplyTimersSound.of_stopped {s : State} (hd : s.supply.resumeDelay = none)
    (hb : s.supply.longBreak = none) : s.SupplyTimersSound :=
  ⟨by rw [hd]; nofun, by rw [hb]; nofun⟩

theorem dropSupplyNotice_supplyTimersSound {s : State} (h : s.SupplyTimersSound) (rest : List SupplyNotice) :
    (dropSupplyNotice rest s).SupplyTimersSound := h

theorem enterBreak_supplyTimersSound (s : State) : (enterBreak s).SupplyTimersSound :=
  allocate_supplyTimersSound ⟨fun _ => rfl, fun _ => rfl⟩ false

theorem enterResuming_supplyTimersSound (s : State) : (enterResuming s).SupplyTimersSound :=
  allocate_supplyTimersSound (.of_stopped rfl rfl) false

theorem enterOffWire_supplyTimersSound (s : State) : (enterOffWire s).SupplyTimersSound :=
  allocate_supplyTimersSound (.of_stopped rfl rfl) false

theorem enterHeld_supplyTimersSound (s : State) : (enterHeld s).SupplyTimersSound :=
  allocate_supplyTimersSound (.of_stopped rfl rfl) false

theorem lineDrops_supplyTimersSound {s : State} (h : s.SupplyTimersSound) : (lineDrops s).SupplyTimersSound := by
  unfold lineDrops
  split
  · split
    · exact enterOffWire_supplyTimersSound s
    · exact enterBreak_supplyTimersSound s
  · exact enterBreak_supplyTimersSound s
  · exact enterBreak_supplyTimersSound s
  · exact ⟨nofun, h.2⟩
  · exact h

theorem takeLineWrite_supplyTimersSound {s : State} (h : s.SupplyTimersSound) (v : Int) :
    (takeLineWrite v s).SupplyTimersSound := by
  let sampled := s.setSupply { s.supply with lastLine := some (lineSample v) }
  have k : sampled.SupplyTimersSound := h
  have dropped : (if v < (globals s.tables).breakLevel then lineDrops sampled else sampled).SupplyTimersSound := by
    split
    · exact lineDrops_supplyTimersSound k
    · exact k
  unfold takeLineWrite
  dsimp only
  split
  · rename_i breaking
    exact ⟨fun _ => breaking, h.2⟩
  · exact dropped
  · exact dropped
  · exact dropped
  · exact k

theorem takePoleChange_supplyTimersSound {s : State} (h : s.SupplyTimersSound) (v : Int) :
    (takePoleChange v s).SupplyTimersSound := by
  unfold takePoleChange
  dsimp only
  split
  · split
    · exact h
    · exact enterOffWire_supplyTimersSound s
  · split
    · split
      · exact enterResuming_supplyTimersSound s
      · exact enterBreak_supplyTimersSound s
    · exact h

theorem longBreakEnds_supplyTimersSound {s : State} (h : s.SupplyTimersSound) :
    (longBreakEnds s).SupplyTimersSound := by
  unfold longBreakEnds
  dsimp only
  split
  · exact enterOffWire_supplyTimersSound _
  · exact ⟨h.1, nofun⟩

theorem budgetTick_supplyTimersSound {s : State} (h : s.SupplyTimersSound) : (budgetTick s).SupplyTimersSound := by
  have restarted : (s.setSupply { s.supply with budget := s.startTimer Config.budgetMs }).SupplyTimersSound := h
  exact allocate_supplyTimersSound restarted true

theorem resumeDelayEnds_supplyTimersSound (s : State) : (resumeDelayEnds s).SupplyTimersSound := by
  unfold resumeDelayEnds
  split
  · exact enterResuming_supplyTimersSound s
  · exact enterHeld_supplyTimersSound s

theorem serveResume_supplyTimersSound {s : State} (h : s.SupplyTimersSound) (data : List Byte) :
    (serveResume data s).SupplyTimersSound := by
  unfold serveResume
  split
  · exact supplyTimersSound_supported.of_only (reply_only _ _ _) (enterResuming_supplyTimersSound s)
  all_goals exact supplyTimersSound_supported.of_only (reply_only _ _ _) h

theorem exec_keeps_supplyTimersSound {c : Instr} {s t : State} (hs : s.SupplyTimersSound) (h : exec c s = .next t) :
    t.SupplyTimersSound := by
  rcases exec_cases h with ⟨cause, u, -, -, rfl⟩ | only
  · exact ⟨nofun, nofun⟩
  · cases c with
    | lineWriteNotice =>
      simp only [exec, execLineWriteNotice] at h
      split at h <;> obtain rfl := Host.Outcome.next.inj h
      · exact takeLineWrite_supplyTimersSound (dropSupplyNotice_supplyTimersSound hs _) _
      · exact hs
    | lineLeaveNotice =>
      simp only [exec, execLineLeaveNotice] at h
      split at h <;> obtain rfl := Host.Outcome.next.inj h
      · exact lineDrops_supplyTimersSound (dropSupplyNotice_supplyTimersSound hs _)
      · exact hs
    | poleChangeNotice =>
      simp only [exec, execPoleChangeNotice] at h
      split at h <;> obtain rfl := Host.Outcome.next.inj h
      · exact takePoleChange_supplyTimersSound (dropSupplyNotice_supplyTimersSound hs _) _
      · exact hs
    | resumeDelayExpiry =>
      exact onExpiry_keeps supplyTimersSound_supported (k := resumeDelayEnds)
        (fun s _ => resumeDelayEnds_supplyTimersSound s) hs h
    | longBreakExpiry =>
      exact onExpiry_keeps supplyTimersSound_supported (k := longBreakEnds)
        (fun s k => longBreakEnds_supplyTimersSound k) hs h
    | budgetTimerExpiry =>
      exact onExpiry_keeps supplyTimersSound_supported (k := budgetTick) (fun s k => budgetTick_supplyTimersSound k) hs h
    | resume =>
      exact takeRequest_keeps supplyTimersSound_supported (serve := serveResume) (fun d s k => serveResume_supplyTimersSound k d) hs h
    | _ => exact supplyTimersSound_supported.of_only only hs (by simp [partsOf])

/-! ### All timers -/

theorem timersSound_supported : Supported State.TimersSound [.slots, .doors, .supply] :=
  fun s t same ⟨hs, hd, hu⟩ =>
    ⟨slotTimersSound_supported s t (fun p hp => same p (by simp_all)) hs,
     doorTimersSound_supported s t (fun p hp => same p (by simp_all)) hd,
     supplyTimersSound_supported s t (fun p hp => same p (by simp_all)) hu⟩

/-- Settles O12: slots, doors and supply unit one after the other; INIT_END finds every door IDLE. -/
theorem timersSoundKept : Obligations.TimersSoundKept := fun _ _ q hs h =>
  timersSound_supported.step_keeps (Q := State.InitQuiet) (fun _ rest q => q.setPending rest)
    (fun _ _ _ q ⟨hs, hd, hu⟩ e =>
      ⟨exec_keeps_slotTimersSound hs e, exec_keeps_doorTimersSound q hd e, exec_keeps_supplyTimersSound hu e⟩) q hs h

end Sys2Proof.Machine
end

section
/-! PROOFS. Ranges of zones, doors and screen channels (4.1.4, 5.1.3, 6.1.3), for O13. -/

namespace Sys2Proof.Machine

-- One theorem at a time: a thread for each of them at once would not fit into the checker's memory bound.
set_option Elab.async false

/-! ### Numbers -/

theorem clampInt_bounds {lo hi : Int} (h : lo ≤ hi) (x : Int) : lo ≤ clampInt lo hi x ∧ clampInt lo hi x ≤ hi :=
  ⟨Int.le_max_left _ _, Int.max_le.2 ⟨h, Int.min_le_left _ _⟩⟩

theorem clamp16_bounds (x : Int) : -32768 ≤ clamp16 x ∧ clamp16 x ≤ 32767 := clampInt_bounds (by decide) x

/-! ### Records by index -/

/-- Every record of a list satisfies what is asked of its index. -/
def AllAt {α : Type} (P : Nat → α → Prop) (xs : List α) : Prop := ∀ i x, xs[i]? = some x → P i x

section
variable {α : Type} {P Q : Nat → α → Prop} {xs : List α}

theorem AllAt.set (h : AllAt P xs) {i : Nat} {y : α} (hy : P i y) : AllAt P (xs.set i y) := by
  intro j x hx
  rw [List.getElem?_set] at hx
  split at hx
  · rename_i e
    split at hx
    · obtain rfl := Option.some.inj hx; exact e ▸ hy
    · cases hx
  · exact h j x hx

theorem AllAt.mapIdx (h : AllAt P xs) {f : Nat → α → α} (hf : ∀ i x, P i x → Q i (f i x)) : AllAt Q (xs.mapIdx f) := by
  intro i y hy
  rw [List.getElem?_mapIdx] at hy
  obtain ⟨x, hx, rfl⟩ := Option.map_eq_some_iff.1 hy
  exact hf i x (h i x hx)

theorem AllAt.getD (h : AllAt P xs) {d : α} (i : Nat) (hd : P i d) : P i (xs.getD i d) := by
  rw [List.getD_eq_getElem?_getD]
  cases hx : xs[i]? with
  | none => exact hd
  | some x => exact h i x hx

theorem AllAt.replicate {n : Nat} {x : α} (h : ∀ i, P i x) : AllAt P (List.replicate n x) := fun i y hy => by
  obtain rfl := List.eq_of_mem_replicate (List.mem_of_getElem? hy)
  exact h i

end

/-! ### Records of a replaced window -/

theorem record_set_ne (t : Tables) {k j : TableId} (h : j ≠ k) (recs : List Rec) (i : Nat) :
    record (t.set k recs) j i = record t j i := by
  rw [record, record, Tables.get_set, if_neg h]

theorem mergedTable_outside (live : List Rec) (w : LoadWindow) (buffer : List Byte) {i : Nat} (h : w.holds i = false) :
    (mergedTable live w buffer).getD i [] = live.getD i [] := by
  have outside : ¬(w.first ≤ i ∧ i < w.first + w.count) := of_decide_eq_false h
  simp only [mergedTable, List.getD_eq_getElem?_getD, List.getElem?_mapIdx]
  cases live[i]? <;> simp [outside]

/-- The tables with a window of a table replaced by a buffer. -/
def replacedTables (t : Tables) (w : LoadWindow) (buffer : List Byte) : Tables :=
  t.set w.table (mergedTable (t.get w.table) w buffer)

/-- Outside the window every record is the live one. -/
theorem record_replaced (t : Tables) (w : LoadWindow) (buffer : List Byte) {k : TableId} {i : Nat}
    (h : w.table = k → w.holds i = false) : record (replacedTables t w buffer) k i = record t k i := by
  unfold replacedTables
  by_cases hk : k = w.table
  · subst hk
    rw [record, record, Tables.get_set, if_pos rfl, mergedTable_outside _ _ _ (h rfl)]
  · exact record_set_ne t hk _ _

/-! ### Zones -/

theorem profileCfg_congr {t u : Tables} {z : Nat} (h : record u .zones z = record t .zones z) (p : Nat) :
    profileCfg u z p = profileCfg t z p := by
  unfold profileCfg; rw [h]

theorem integralLimit_nonneg (t : Tables) (z p : Nat) : 0 ≤ (profileCfg t z p).integralLimit :=
  (clampInt_bounds (by decide) _).1

/-- A zone's ranges but for the integral's, which depends on the profile. -/
theorem ZoneLive.Bounded.withIntegral {l : ZoneLive} {p q : Profile} (h : l.Bounded p) {i : Int}
    (hi : -q.integralLimit ≤ i ∧ i ≤ q.integralLimit) (profile : Nat) :
    { l with profile := profile, integral := i }.Bounded q :=
  { h with integral := hi }

theorem ZoneLive.bounded_start {p : Profile} (hp : 0 ≤ p.integralLimit) : ({} : ZoneLive).Bounded p where
  integral := ⟨Int.neg_nonpos_of_nonneg hp, hp⟩
  demand := by decide
  raw := by decide
  temp := by decide
  setpoint := Or.inl rfl
  blower := by decide
  damper := by decide
  request := by decide
  storage := by decide

theorem ZoneLive.toStandby_bounded {l : ZoneLive} {p q : Profile} (h : l.Bounded p) (hq : 0 ≤ q.integralLimit) :
    l.toStandby.Bounded q :=
  { ZoneLive.bounded_start hq with temp := h.temp, setpoint := h.setpoint }

theorem selectProfile_bounded {t : Tables} {z : Nat} {l : ZoneLive} (h : l.Bounded (profileCfg t z l.profile))
    (mode : VehicleMode) :
    (selectProfile t mode z l).Bounded (profileCfg t z (selectProfile t mode z l).profile) := by
  unfold selectProfile
  dsimp only
  split
  · exact h
  · exact h.withIntegral (clampInt_bounds (by have := integralLimit_nonneg t z (profileFor t z mode l.profile); omega) _) _

theorem enabledDemand_bounds (p : Profile) {d : Int} (h : -1000 ≤ d ∧ d ≤ 1000) :
    -1000 ≤ enabledDemand p d ∧ enabledDemand p d ≤ 1000 := by
  unfold enabledDemand
  split
  · decide
  · split
    · decide
    · exact h

/-- The ranges of a step's integral, raw demand and demand. -/
def Regulated.Bounded (r : Regulated) (p : Profile) : Prop :=
  (-p.integralLimit ≤ r.integral ∧ r.integral ≤ p.integralLimit) ∧ (-32768 ≤ r.rawDemand ∧ r.rawDemand ≤ 32767) ∧
  (-1000 ≤ r.demand ∧ r.demand ≤ 1000)

theorem regulate_bounded {p : Profile} (hp : 0 ≤ p.integralLimit) (l : ZoneLive) (share : ZoneShare)
    (supply : SupplyState) (mode : OverrideMode) (sp t : Int) (ff : Nat) :
    (regulate p l share supply mode sp t ff).Bounded p :=
  ⟨clampInt_bounds (by omega) _, clamp16_bounds _, enabledDemand_bounds p (clampInt_bounds (by decide) _)⟩

theorem fallBack_bounded {p : Profile} {l : ZoneLive} (h : l.Bounded p) {d : Int} (hd : -1000 ≤ d ∧ d ≤ 1000) :
    (fallBack p l d).Bounded p := by
  have enabled := enabledDemand_bounds p hd
  exact ⟨h.integral, ⟨by simp only [fallBack]; omega, by simp only [fallBack]; omega⟩, enabled⟩

theorem applyMode_bounded {p : Profile} (hp : 0 ≤ p.integralLimit) {r : Regulated} (h : r.Bounded p)
    (mode : OverrideMode) : (applyMode mode r).Bounded p := by
  cases mode with
  | normal => exact h
  | ventOnly => exact ⟨h.1, (by decide : (-32768 : Int) ≤ 0 ∧ (0 : Int) ≤ 32767), (by decide : (-1000 : Int) ≤ 0 ∧ (0 : Int) ≤ 1000)⟩
  | off =>
    exact ⟨⟨Int.neg_nonpos_of_nonneg hp, hp⟩, (by decide : (-32768 : Int) ≤ 0 ∧ (0 : Int) ≤ 32767),
      (by decide : (-1000 : Int) ≤ 0 ∧ (0 : Int) ≤ 1000)⟩

theorem weightedMean_bounds (rs : List (Nat × Int × Quality)) : -400 ≤ weightedMean rs ∧ weightedMean rs ≤ 850 := by
  unfold weightedMean
  dsimp only
  split
  · decide
  · exact clampInt_bounds (by decide) _

theorem zoneDamper_le (s : State) (z p : Nat) : zoneDamper s z (profileCfg s.tables z p) ≤ 1000 := by
  unfold zoneDamper
  split
  · exact Nat.le_refl _
  · split
    · exact Nat.min_le_right _ _
    · exact Nat.le_refl _
    · exact Nat.zero_le _

theorem zoneStorageRequest_le (s : State) (z : Nat) (p : Profile) (regulating : Bool) (mode : OverrideMode)
    (sp t demand : Int) (blower : Nat) : zoneStorageRequest s z p regulating mode sp t demand blower ≤ 1500 := by
  unfold zoneStorageRequest
  dsimp only
  split
  · exact Nat.min_le_left _ _
  · exact Nat.zero_le _

theorem zoneStepActive_bounded {s : State} {z : Nat}
    (h : (s.zone z).Bounded (profileCfg s.tables z (s.zone z).profile)) :
    (zoneStepActive s z).Bounded (profileCfg s.tables z (s.zone z).profile) := by
  have limit := integralLimit_nonneg s.tables z (s.zone z).profile
  let law :=
    if (zoneTemperature s z).1 != .none then
      regulate (profileCfg s.tables z (s.zone z).profile) (s.zone z) (zoneShare s z) s.composer.copy.supply (zoneMode s z)
        (zoneSetpoint s z (profileCfg s.tables z (s.zone z).profile)) (zoneTemperature s z).2 (zoneFeedforward s z)
    else fallBack (profileCfg s.tables z (s.zone z).profile) (s.zone z) (zoneCfg s.tables z).fallbackDemand
  have formed : (applyMode (zoneMode s z) law).Bounded (profileCfg s.tables z (s.zone z).profile) := by
    refine applyMode_bounded limit ?_ _
    dsimp only [law]
    split
    · exact regulate_bounded limit _ _ _ _ _ _ _
    · exact fallBack_bounded h (clampInt_bounds (by decide) _)
  obtain ⟨integral, raw, demand⟩ := formed
  exact { integral := integral, demand := demand, raw := raw
          temp := weightedMean_bounds _
          setpoint := Or.inr (clampInt_bounds (by decide) _)
          blower := Nat.min_le_left _ _
          damper := zoneDamper_le _ _ _
          request := Nat.min_le_left _ _
          storage := zoneStorageRequest_le _ _ _ _ _ _ _ _ _ }

theorem zoneStepStandby_bounded {s : State} {z : Nat}
    (h : (s.zone z).Bounded (profileCfg s.tables z (s.zone z).profile)) :
    (zoneStepStandby s z).Bounded (profileCfg s.tables z (s.zone z).profile) :=
  { h with temp := weightedMean_bounds _, setpoint := Or.inr (clampInt_bounds (by decide) _) }

/-- What `ZonesBounded` asks of the zone at an index. -/
def ZoneBoundedAt (t : Tables) (z : Nat) (l : ZoneLive) : Prop := l.Bounded (profileCfg t z l.profile)

theorem zoneBoundedAt_start (t : Tables) (z : Nat) : ZoneBoundedAt t z {} :=
  ZoneLive.bounded_start (integralLimit_nonneg _ _ _)

theorem State.zonesBounded_iff (s : State) : s.ZonesBounded ↔ AllAt (ZoneBoundedAt s.tables) s.regulator.zones := Iff.rfl

theorem State.ZonesBounded.zone {s : State} (h : s.ZonesBounded) (z : Nat) : ZoneBoundedAt s.tables z (s.zone z) :=
  AllAt.getD h z (zoneBoundedAt_start _ _)

theorem State.ZonesBounded.setZone {s : State} (h : s.ZonesBounded) {z : Nat} {l : ZoneLive}
    (hl : ZoneBoundedAt s.tables z l) : (s.setZone z l).ZonesBounded := AllAt.set h hl

theorem zonesBounded_supported : Supported State.ZonesBounded [.tables, .zones] := by
  intro s t same h
  rw [State.zonesBounded_iff, show t.tables = s.tables from same .tables (by simp),
    show t.regulator.zones = s.regulator.zones from same .zones (by simp)]
  exact h

theorem zonesAtMode_bounded {t : Tables} {zones : List ZoneLive} (h : AllAt (ZoneBoundedAt t) zones) (changed : Bool)
    (mode : VehicleMode) : AllAt (ZoneBoundedAt t) (zonesAtMode t changed mode zones) := by
  refine h.mapIdx fun z l hl => ?_
  split
  · split
    · exact selectProfile_bounded (ZoneLive.toStandby_bounded hl (integralLimit_nonneg _ _ _)) mode
    · exact selectProfile_bounded hl mode
  · exact hl

theorem deriveClimate_zonesBounded {s : State} (h : s.ZonesBounded) (m : Int) : (deriveClimate m s).ZonesBounded :=
  zonesAtMode_bounded h _ _

theorem endInit_zonesBounded {s : State} (h : s.ZonesBounded) : (endInit s).ZonesBounded := by
  refine AllAt.mapIdx h fun z l hl => ?_
  unfold zoneAtInitEnd
  split
  · have selected := selectProfile_bounded hl (VehicleMode.ofValue (s.read (globals s.tables).modeSlot).1)
    exact { selected with }
  · exact hl

theorem stepZone_zonesBounded {s : State} (h : s.ZonesBounded) (z : Nat) : (stepZone z s).ZonesBounded := by
  unfold stepZone
  split
  · exact zonesBounded_supported.of_only (raiseWhen_only _ _ _) (h.setZone (zoneStepActive_bounded (h.zone z)))
  · exact h.setZone (zoneStepStandby_bounded (h.zone z))

theorem restartHolds_zonesBounded {s : State} (h : s.ZonesBounded) (p : Publication) :
    (restartHolds p s).ZonesBounded :=
  AllAt.mapIdx h fun _ _ hl => { hl with }

theorem takePublication_zonesBounded {s : State} (h : s.ZonesBounded) (p : Publication) (rest : List Publication) :
    (takePublication p rest s).ZonesBounded := by
  have held : (restartHolds p (s.setComposer { s.composer with copy := p, publications := rest })).ZonesBounded :=
    restartHolds_zonesBounded (s := s.setComposer _) h p
  have filled := zonesBounded_supported.of_only (changeTests_only _) <|
    zonesBounded_supported.of_only (mapOutputs_only _ _ : Only _ _ (fillAll _)) <|
    zonesBounded_supported.of_only (mapOutputs_only _ _ : Only _ _ (formFRequests _)) <|
    zonesBounded_supported.of_only (readMarks_only _) held
  exact filled

theorem activatedZone_bounded (s : State) (z : Nat) (l : ZoneLive) : ZoneBoundedAt s.tables z (activatedZone s z l) :=
  { ZoneLive.bounded_start (integralLimit_nonneg _ _ _) with }

/-- Replacing the tables alone keeps the ranges of every zone outside the window. -/
theorem zoneBoundedAt_replaced {t : Tables} {w : LoadWindow} {buffer : List Byte} {z : Nat} {l : ZoneLive}
    (h : ZoneBoundedAt t z l) (hw : w.table = .zones → w.holds z = false) :
    ZoneBoundedAt (replacedTables t w buffer) z l := by
  unfold ZoneBoundedAt
  rw [profileCfg_congr (record_replaced t w buffer hw)]
  exact h

theorem takeActivation_slots {w : LoadWindow} (hw : w.table = .slots) (s : State) :
    takeActivation w s = activateSlots w s ∨ takeActivation w s = rederiveClimate (activateSlots w s) := by
  unfold takeActivation
  split <;> simp_all only [reduceCtorEq]
  split
  · split
    · exact Or.inr rfl
    · exact Or.inl rfl
  · exact Or.inl rfl

theorem takeActivation_zones {w : LoadWindow} (hw : w.table = .zones) (s : State) :
    takeActivation w s = s.setRegulator { s.regulator with
      zones := s.regulator.zones.mapIdx fun z l => if w.holds z then activatedZone s z l else l } := by
  unfold takeActivation; split <;> simp_all only [reduceCtorEq]

theorem takeActivation_doors {w : LoadWindow} (hw : w.table = .doors) (s : State) :
    takeActivation w s = s.setDoors { s.doors with
      doors := s.doors.doors.mapIdx fun d l => if w.holds d then activatedDoor s d l else l } := by
  unfold takeActivation; split <;> simp_all only [reduceCtorEq]

theorem takeActivation_screens {w : LoadWindow} (hw : w.table = .screens) (s : State) :
    takeActivation w s = s.setScreens { s.screens with
      channels := s.screens.channels.mapIdx fun c l => if w.holds c then activatedScreen s c else l } := by
  unfold takeActivation; split <;> simp_all only [reduceCtorEq]

theorem takeActivation_globals {w : LoadWindow} (hw : w.table = .globals) (s : State) :
    takeActivation w s = rederiveClimate s := by
  unfold takeActivation; split <;> simp_all only [reduceCtorEq]

theorem goLive_zonesBounded {s : State} (h : s.ZonesBounded) (w : LoadWindow) (buffer : List Byte) :
    (goLive w (mergedTable (s.tables.get w.table) w buffer) s).ZonesBounded := by
  let u := s.setTables (replacedTables s.tables w buffer)
  show (takeActivation w u).ZonesBounded
  by_cases hz : w.table = .zones
  · rw [takeActivation_zones hz]
    refine AllAt.mapIdx h fun z l hl => ?_
    split
    · exact activatedZone_bounded _ _ _
    · rename_i outside
      exact zoneBoundedAt_replaced hl fun _ => by simpa using outside
  · have replaced : u.ZonesBounded := fun z l hl => zoneBoundedAt_replaced (h z l hl) fun e => absurd e hz
    by_cases hs : w.table = .slots
    · have cleared : (activateSlots w u).ZonesBounded := zonesBounded_supported.of_only (activateSlots_only w u) replaced
      rcases takeActivation_slots hs u with e | e <;> rw [e]
      · exact cleared
      · exact deriveClimate_zonesBounded cleared _
    · by_cases hg : w.table = .globals
      · rw [takeActivation_globals hg]
        exact deriveClimate_zonesBounded replaced _
      · refine zonesBounded_supported.of_only (takeActivation_only w u) replaced ?_
        cases hk : w.table <;> simp_all [TableId.parts]

theorem exec_keeps_zonesBounded {c : Instr} {s t : State} (hs : s.ZonesBounded) (h : exec c s = .next t) :
    t.ZonesBounded := by
  rcases exec_cases h with ⟨cause, u, -, -, rfl⟩ | only
  · exact AllAt.replicate fun z => zoneBoundedAt_start _ z
  · cases c with
    | initEnd =>
      cases hp : s.phase <;> simp only [exec, execInitEnd, hp] at h <;> obtain rfl := Host.Outcome.next.inj h
      · exact endInit_zonesBounded hs
      · exact hs
    | vehicleModeNotice =>
      simp only [exec, execVehicleModeNotice] at h
      split at h <;> obtain rfl := Host.Outcome.next.inj h
      · exact deriveClimate_zonesBounded (s := s.setRegulator _) hs _
      · exact hs
    | zoneStep z => exact onExpiry_keeps zonesBounded_supported (k := stepZone z) (fun s k => stepZone_zonesBounded k z) hs h
    | storageHoldExpiry z =>
      exact onExpiry_keeps zonesBounded_supported (k := endHold z) (fun s k => k.setZone { k.zone z with }) hs h
    | publicationTake =>
      simp only [exec, execPublicationTake] at h
      split at h <;> obtain rfl := Host.Outcome.next.inj h
      · exact takePublication_zonesBounded hs _ _
      · exact hs
    | activate =>
      exact takeRequest_keeps zonesBounded_supported (fun data s k => serveActivate_keeps zonesBounded_supported
        (fun w b _ k => goLive_zonesBounded k w b) k data) hs h
    | _ => exact zonesBounded_supported.of_only only hs (by simp [partsOf])

/-! ### Doors -/

/-- What `DoorsBounded` asks of the door at an index. -/
def DoorBoundedAt (t : Tables) (d : Nat) (l : DoorLive) : Prop := l.Bounded (doorCfg t d)

theorem DoorLive.bounded_start (c : DoorCfg) : ({} : DoorLive).Bounded c :=
  ⟨Nat.zero_le _, Nat.zero_le _, Nat.zero_le _, Nat.zero_le _, Nat.zero_le _, Nat.zero_le _⟩

theorem State.DoorsBounded.door {s : State} (h : s.DoorsBounded) (d : Nat) : DoorBoundedAt s.tables d (s.door d) :=
  AllAt.getD (P := DoorBoundedAt s.tables) h d (DoorLive.bounded_start _)

theorem State.DoorsBounded.setDoor {s : State} (h : s.DoorsBounded) {d : Nat} {l : DoorLive}
    (hl : DoorBoundedAt s.tables d l) : (s.setDoor d l).DoorsBounded := AllAt.set (P := DoorBoundedAt s.tables) h hl

theorem doorsBounded_supported : Supported State.DoorsBounded [.tables, .doors] := by
  intro s t same h
  rw [State.DoorsBounded, show t.tables = s.tables from same .tables (by simp),
    show t.doors.doors = s.doors.doors from same .doors (by simp)]
  exact h

theorem openStage_le (g : Globals) (o : Int) : openStage g o ≤ 3 := by
  unfold openStage
  split
  · exact Nat.le_refl 3
  · split
    · decide
    · split <;> decide

theorem curtainOf_le (s : State) (st : DoorState) {held : Nat} (h : held ≤ 3) : (curtainOf s st held).1 ≤ 3 := by
  cases st with
  | opened => exact openStage_le _ _
  | runOn => exact h
  | ready | layover => exact (by decide : 1 ≤ 3)
  | idle | fault => exact Nat.zero_le _

theorem evaluateCurtain_bounded {s : State} {l : DoorLive} {c : DoorCfg} (h : l.Bounded c) :
    (evaluateCurtain s l).Bounded c := by
  have own := curtainOf_le s l.state h.held
  refine { h with stage := ?_, own := own }
  simp only [evaluateCurtain]
  split
  · exact Nat.zero_le _
  · exact own

theorem settleDoor_bounded {s : State} {d : Nat} {l : DoorLive} {c : DoorCfg} (h : l.Bounded c) :
    (settleDoor s d l).Bounded c :=
  { evaluateCurtain_bounded (s := s) h with request := Nat.min_le_left _ _ }

theorem enterOpen_bounded {s : State} {d : Nat} {l : DoorLive} {c : DoorCfg} (h : l.Bounded c) :
    (enterOpen s d l).Bounded c := settleDoor_bounded { h with }

theorem enterRunOn_bounded {s : State} {d : Nat} {l : DoorLive} {c : DoorCfg} (h : l.Bounded c) :
    (enterRunOn s d l).Bounded c := settleDoor_bounded { h with held := h.own }

theorem doorOpenActive_bounded {s : State} {d : Nat} {c : DoorCfg} (h : (s.door d).Bounded c) (v : Int) :
    (doorOpenActive s d v).Bounded c := by
  have restarted (timer : Timer) : { s.door d with signalLost := timer }.Bounded c := { h with }
  unfold doorOpenActive
  dsimp only
  split <;> split
  case h_1.isTrue | h_2.isTrue | h_5.isTrue | h_6.isTrue => exact enterOpen_bounded (restarted _)
  case h_3.isFalse | h_4.isFalse => exact enterRunOn_bounded (restarted _)
  case h_6.isFalse => exact settleDoor_bounded { h with }
  all_goals exact restarted _

theorem releaseActive_bounded {s : State} {d : Nat} {c : DoorCfg} (h : (s.door d).Bounded c) (v : Int) :
    (releaseActive s d v).Bounded c := by
  have moved (st : DoorState) : (settleDoor s d { s.door d with state := st }).Bounded c := settleDoor_bounded { h with }
  unfold releaseActive
  dsimp only
  split
  · split
    · exact moved _
    · exact h
  · split
    · exact h
    · exact moved _
  all_goals exact h

theorem payDebt_bounded {s : State} {d : Nat} {l : DoorLive} (h : l.Bounded (doorCfg s.tables d)) :
    (payDebt s d l).Bounded (doorCfg s.tables d) := by
  unfold payDebt
  split
  · exact h
  · have gained (st : DoorState) : debtGained s d st l.debt ≤ (doorCfg s.tables d).debtLimit := Nat.min_le_left _ _
    exact { h with debt := Nat.le_trans (Nat.sub_le _ _) (gained _), ff := Nat.min_le_left _ _ }

theorem doorPeriodActive_bounded {s : State} {d : Nat} (h : (s.door d).Bounded (doorCfg s.tables d)) :
    (doorPeriodActive s d).Bounded (doorCfg s.tables d) := by
  have moved : (evaluateCurtain s { s.door d with state := preOpen s d (s.door d).state }).Bounded (doorCfg s.tables d) :=
    evaluateCurtain_bounded { h with }
  exact { payDebt_bounded moved with request := Nat.min_le_left _ _ }

theorem periodDoor_doorsBounded {s : State} (h : s.DoorsBounded) (d : Nat) : (periodDoor d s).DoorsBounded := by
  refine h.setDoor ?_
  split
  · exact doorPeriodActive_bounded (h.door d)
  · exact { h.door d with }

theorem DoorLive.faulted_bounded {l : DoorLive} {c : DoorCfg} (h : l.Bounded c) : l.faulted.Bounded c :=
  { DoorLive.bounded_start c with debt := h.debt }

theorem doorAtClimate_bounded (s : State) (c : Climate) (d : Nat) {l : DoorLive} {r : DoorCfg} (h : l.Bounded r) :
    (doorAtClimate s c d l).Bounded r := by
  unfold doorAtClimate
  split
  · cases c <;> exact { DoorLive.bounded_start r with }
  · exact h

theorem activatedDoor_bounded (s : State) (d : Nat) (l : DoorLive) (r : DoorCfg) : (activatedDoor s d l).Bounded r := by
  unfold activatedDoor
  split <;> exact { DoorLive.bounded_start r with }

theorem doorBoundedAt_replaced {t : Tables} {w : LoadWindow} {buffer : List Byte} {d : Nat} {l : DoorLive}
    (h : DoorBoundedAt t d l) (hw : w.table = .doors → w.holds d = false) :
    DoorBoundedAt (replacedTables t w buffer) d l := by
  have limit : (doorCfg (replacedTables t w buffer) d).debtLimit = (doorCfg t d).debtLimit := by
    simp only [doorCfg, record_replaced t w buffer hw]
  exact { h with debt := limit ▸ h.debt }

theorem goLive_doorsBounded {s : State} (h : s.DoorsBounded) (w : LoadWindow) (buffer : List Byte) :
    (goLive w (mergedTable (s.tables.get w.table) w buffer) s).DoorsBounded := by
  let u := s.setTables (replacedTables s.tables w buffer)
  show (takeActivation w u).DoorsBounded
  by_cases hd : w.table = .doors
  · rw [takeActivation_doors hd]
    refine AllAt.mapIdx (P := DoorBoundedAt s.tables) (Q := DoorBoundedAt u.tables) h fun d l hl => ?_
    split
    · exact activatedDoor_bounded _ _ _ _
    · rename_i outside
      exact doorBoundedAt_replaced hl fun _ => by simpa using outside
  · have replaced : u.DoorsBounded := fun d l hl => doorBoundedAt_replaced (h d l hl) fun e => absurd e hd
    refine doorsBounded_supported.of_only (takeActivation_only w u) replaced ?_
    cases hk : w.table <;> simp_all [TableId.parts]

theorem runBinding_doorsBounded (h : HandOff) (s : State) (k : Nat) (hs : s.DoorsBounded) :
    (runBinding h s k).DoorsBounded := by
  have noticed (i : Nat) (v : Int) (c : Bool) (x : SlotLive) : (sendNotices i v c (s.setSlot i x)).DoorsBounded :=
    AllAt.mapIdx (P := DoorBoundedAt s.tables) (Q := DoorBoundedAt s.tables) hs fun _ _ hl => { hl with }
  unfold runBinding
  dsimp only
  split
  · exact hs
  · split
    · unfold writeSlot
      split
      · exact noticed _ _ _ _
      · exact hs
    · exact hs

theorem endInit_doorsBounded {s : State} (h : s.DoorsBounded) : (endInit s).DoorsBounded := by
  refine AllAt.mapIdx (P := DoorBoundedAt s.tables) (Q := DoorBoundedAt s.tables) h fun d l hl => ?_
  unfold doorAtInitEnd
  split
  · exact { hl with }
  · exact hl

theorem dropDoorNotice_doorsBounded {s : State} (h : s.DoorsBounded) (d : Nat) (rest : List DoorNotice) :
    (dropDoorNotice d rest s).DoorsBounded := h.setDoor { h.door d with }

theorem exec_keeps_doorsBounded {c : Instr} {s t : State} (hs : s.DoorsBounded) (h : exec c s = .next t) :
    t.DoorsBounded := by
  rcases exec_cases h with ⟨cause, u, -, -, rfl⟩ | only
  · exact AllAt.replicate (P := DoorBoundedAt _) fun d => DoorLive.bounded_start _
  · cases c with
    | initEnd =>
      cases hp : s.phase <;> simp only [exec, execInitEnd, hp] at h <;> obtain rfl := Host.Outcome.next.inj h
      · exact endInit_doorsBounded hs
      · exact hs
    | binderRun =>
      simp only [exec, execBinderRun] at h
      split at h <;> obtain rfl := Host.Outcome.next.inj h
      · exact foldl_keeps (runBinding_doorsBounded _) _ (s := s.setBinder _) hs
      · exact hs
    | doorPeriod d => exact onExpiry_keeps doorsBounded_supported (k := periodDoor d) (fun s k => periodDoor_doorsBounded k d) hs h
    | doorOpenNotice d =>
      simp only [exec, execDoorOpenNotice] at h
      split at h <;> obtain rfl := Host.Outcome.next.inj h
      · have dropped := dropDoorNotice_doorsBounded hs d ‹_›
        refine dropped.setDoor ?_
        split
        · exact doorOpenActive_bounded (dropped.door d) _
        · exact dropped.door d
      · exact hs
    | releaseNotice d =>
      simp only [exec, execReleaseNotice] at h
      split at h <;> obtain rfl := Host.Outcome.next.inj h
      · have dropped := dropDoorNotice_doorsBounded hs d ‹_›
        refine dropped.setDoor ?_
        split
        · exact releaseActive_bounded (dropped.door d) _
        · exact dropped.door d
      · exact hs
    | openTimerExpiry d =>
      exact onExpiry_keeps doorsBounded_supported (k := openTimerEnds d)
        (fun s k => k.setDoor (settleDoor_bounded { k.door d with })) hs h
    | runOnExpiry d =>
      exact onExpiry_keeps doorsBounded_supported (k := runOnEnds d)
        (fun s k => k.setDoor (settleDoor_bounded { k.door d with held := Nat.zero_le _ })) hs h
    | signalLostExpiry d =>
      exact onExpiry_keeps doorsBounded_supported (k := signalLostEnds d) (fun s k =>
        doorsBounded_supported.of_only (raise_only _ _) (k.setDoor (DoorLive.faulted_bounded (k.door d)))) hs h
    | doorClimateNotice =>
      simp only [exec, execDoorClimateNotice] at h
      split at h <;> obtain rfl := Host.Outcome.next.inj h
      · exact AllAt.mapIdx (P := DoorBoundedAt s.tables) (Q := DoorBoundedAt s.tables) hs fun d l hl =>
          doorAtClimate_bounded _ _ d hl
      · exact hs
    | activate =>
      exact takeRequest_keeps doorsBounded_supported (fun data s k => serveActivate_keeps doorsBounded_supported
        (fun w b _ k => goLive_doorsBounded k w b) k data) hs h
    | _ => exact doorsBounded_supported.of_only only hs (by simp [partsOf])

/-! ### Screen channels -/

theorem screensLevelled_supported : Supported State.ScreensLevelled [.channels] := by
  intro s t same h
  rw [State.ScreensLevelled, show t.screens.channels = s.screens.channels from same .channels (by simp)]
  exact h

theorem ScreenLive.levelled_start : ({} : ScreenLive).Levelled := ⟨rfl, Nat.le_refl _, Nat.zero_le _, Nat.zero_le _⟩

theorem State.ScreensLevelled.screen {s : State} (h : s.ScreensLevelled) (c : Nat) : (s.screen c).Levelled :=
  getD_of_forall h ScreenLive.levelled_start c

theorem State.ScreensLevelled.setScreen {s : State} (h : s.ScreensLevelled) (c : Nat) {l : ScreenLive}
    (hl : l.Levelled) : (s.setScreen c l).ScreensLevelled := forall_mem_set h hl c

theorem presetCfg_screenFloor_le (t : Tables) (p : Nat) : (presetCfg t p).screenFloor ≤ 3 := Nat.min_le_right _ _

theorem foldl_max_le {α : Type} {f : α → Nat} {n : Nat} (hf : ∀ a, f a ≤ n) (as : List α) {m : Nat} (hm : m ≤ n) :
    as.foldl (fun m a => max m (f a)) m ≤ n := by
  induction as generalizing m with
  | nil => exact hm
  | cons a as ih => exact ih (Nat.max_le.2 ⟨hm, hf a⟩)

theorem effectiveOverride_screenFloor_le (t : Tables) (entries : List StackEntry) :
    (effectiveOverride t entries).screenFloor ≤ 3 := by
  cases entries with
  | nil => exact Nat.zero_le _
  | cons top rest => exact foldl_max_le (fun e => presetCfg_screenFloor_le t _) _ (Nat.zero_le _)

theorem ScreenCondition.level_le (c : ScreenCondition) : c.level ≤ 3 := by cases c <;> decide

theorem screenRequest_le (s : State) (c level : Nat) : screenRequest s c level ≤ 1500 := by
  unfold screenRequest
  dsimp only
  split
  · exact Nat.zero_le _
  · exact Nat.min_le_left _ _

theorem screenActive_levelled (s : State) (c : Nat) : (screenActive s c).Levelled :=
  ⟨rfl, Nat.le_max_left _ _, Nat.max_le.2 ⟨ScreenCondition.level_le _, effectiveOverride_screenFloor_le _ _⟩, screenRequest_le _ _ _⟩

theorem evaluateScreen_screensLevelled {s : State} (h : s.ScreensLevelled) (c : Nat) :
    (evaluateScreen c s).ScreensLevelled := by
  unfold evaluateScreen
  split
  · exact screensLevelled_supported.of_only (raiseWhen_only _ _ _) (h.setScreen c (screenActive_levelled s c))
  · have kept : (screenStandby s c).Levelled := h.screen c
    exact h.setScreen c kept

theorem goLive_screensLevelled {s : State} (h : s.ScreensLevelled) (w : LoadWindow) (merged : List Rec) :
    (goLive w merged s).ScreensLevelled := by
  by_cases hw : w.table = .screens
  · unfold goLive
    rw [takeActivation_screens hw]
    refine forall_mem_mapIdx h fun c l hl => ?_
    split
    · exact ScreenLive.levelled_start
    · exact hl
  · refine screensLevelled_supported.goLive h merged ?_
    cases hk : w.table <;> simp_all [TableId.parts]

theorem exec_keeps_screensLevelled {c : Instr} {s t : State} (hs : s.ScreensLevelled) (h : exec c s = .next t) :
    t.ScreensLevelled := by
  rcases exec_cases h with ⟨cause, u, -, -, rfl⟩ | only
  · intro l hl
    obtain rfl := List.eq_of_mem_replicate hl
    exact ScreenLive.levelled_start
  · cases c with
    | initEnd =>
      cases hp : s.phase <;> simp only [exec, execInitEnd, hp] at h <;> obtain rfl := Host.Outcome.next.inj h
      · refine forall_mem_mapIdx hs fun c l hl => ?_
        unfold screenAtInitEnd
        split <;> exact hl
      · exact hs
    | screenEvaluation i =>
      exact onExpiry_keeps screensLevelled_supported (k := evaluateScreen i)
        (fun s k => evaluateScreen_screensLevelled k i) hs h
    | screenClimateNotice =>
      simp only [exec, execScreenClimateNotice] at h
      split at h <;> obtain rfl := Host.Outcome.next.inj h
      · refine forall_mem_mapIdx hs fun c l hl => ?_
        split
        · exact ScreenLive.levelled_start
        · exact hl
      · exact hs
    | activate =>
      exact takeRequest_keeps screensLevelled_supported (fun data s k => serveActivate_keeps screensLevelled_supported
        (fun w _ _ k => goLive_screensLevelled k w _) k data) hs h
    | _ => exact screensLevelled_supported.of_only only hs (by simp [partsOf])

/-- Settles O13: the three blocks one after the other; an activation clears what its window replaces. -/
theorem climateBoundsKept : Obligations.ClimateBoundsKept := fun _ _ h =>
  ⟨fun hs => zonesBounded_supported.step_keeps (Q := fun _ => True) (fun _ _ q => q)
      (fun _ _ _ _ => exec_keeps_zonesBounded) trivial hs h,
   fun hs => doorsBounded_supported.step_keeps (Q := fun _ => True) (fun _ _ q => q)
      (fun _ _ _ _ => exec_keeps_doorsBounded) trivial hs h,
   fun hs => screensLevelled_supported.step_keeps (Q := fun _ => True) (fun _ _ q => q)
      (fun _ _ _ _ => exec_keeps_screensLevelled) trivial hs h⟩

end Sys2Proof.Machine
end

section
/-! PROOFS. Publications and grants (chapter 7): no publication gives out more than its ceiling, for O14. -/

namespace Sys2Proof.Machine

-- One theorem at a time: a thread for each of them at once would not fit into the checker's memory bound.
set_option Elab.async false

/-! ### Sums -/

theorem sum_map_le_sum_map {α : Type} {f g : α → Nat} {as : List α} (h : ∀ a ∈ as, f a ≤ g a) :
    (as.map f).sum ≤ (as.map g).sum := by
  induction as with
  | nil => exact Nat.le_refl 0
  | cons a as ih =>
    rw [List.map_cons, List.map_cons, List.sum_cons, List.sum_cons]
    exact Nat.add_le_add (h a List.mem_cons_self) (ih fun b hb => h b (List.mem_cons_of_mem a hb))

theorem sum_map_zero {α : Type} {f : α → Nat} {as : List α} (h : ∀ a ∈ as, f a = 0) : (as.map f).sum = 0 := by
  induction as with
  | nil => rfl
  | cons a as ih =>
    rw [List.map_cons, List.sum_cons, h a List.mem_cons_self, ih fun b hb => h b (List.mem_cons_of_mem a hb)]

theorem sum_map_plus {α : Type} (f g : α → Nat) (as : List α) :
    (as.map fun a => f a + g a).sum = (as.map f).sum + (as.map g).sum := by
  induction as with
  | nil => rfl
  | cons a as ih =>
    simp only [List.map_cons, List.sum_cons, ih]
    omega

/-- The first entries of a list together are at most all of them. -/
theorem sum_range_getD_le (xs : List Nat) (n : Nat) : ((List.range n).map fun i => xs.getD i 0).sum ≤ xs.sum := by
  induction n generalizing xs with
  | zero => exact Nat.zero_le _
  | succ n ih =>
    rw [List.range_succ_eq_map, List.map_cons, List.map_map, List.sum_cons]
    cases xs with
    | nil =>
      have rest : ((List.range n).map ((fun i => ([] : List Nat).getD i 0) ∘ Nat.succ)).sum = 0 := sum_map_zero fun _ _ => rfl
      rw [rest]
      exact Nat.le_refl 0
    | cons x xs =>
      have rest := ih xs
      simp only [Function.comp_def, List.getD_cons_succ, List.getD_cons_zero, List.sum_cons]
      omega

theorem shares_grants_le (requests grants : List Nat) : ((shares requests grants).map (·.grant)).sum ≤ grants.sum := by
  unfold shares
  induction requests generalizing grants with
  | nil => simp
  | cons q qs ih =>
    cases grants with
    | nil => simp
    | cons g gs => simpa using ih gs

/-! ### One allocation -/

/-- All the grants of an allotment together. -/
def Allotment.total (a : Allotment) : Nat :=
  a.f.sum + a.screens.sum + a.cabs.sum + a.doors.sum + a.saloons.sum + a.storage.sum

/-- Each class is served from what the class before it left. -/
theorem allot_total_le (ceiling surplus : Nat) (q : Requests) : (allot ceiling surplus q).total ≤ ceiling := by
  let f := serveClass true ceiling q.f
  let p0 := serveClass (!f.short) f.remainder q.screens
  let p1 := serveClass (!f.short && !p0.short) p0.remainder q.cabs
  let p2 := serveClass (!f.short && !p0.short && !p1.short) p1.remainder q.doors
  let p3 := serveClass (!f.short && !p0.short && !p1.short && !p2.short) p2.remainder q.saloons
  let p4 := serveClass (!f.short && !p0.short && !p1.short && !p2.short && !p3.short)
    (min p3.remainder surplus) q.storage
  have forced : f.grants.sum + f.remainder ≤ ceiling := serveClass_le _ _ _
  have screens : p0.grants.sum + p0.remainder ≤ f.remainder := serveClass_le _ _ _
  have cabs : p1.grants.sum + p1.remainder ≤ p0.remainder := serveClass_le _ _ _
  have doors : p2.grants.sum + p2.remainder ≤ p1.remainder := serveClass_le _ _ _
  have saloons : p3.grants.sum + p3.remainder ≤ p2.remainder := serveClass_le _ _ _
  have storage : p4.grants.sum + p4.remainder ≤ min p3.remainder surplus := serveClass_le _ _ _
  have lesser : min p3.remainder surplus ≤ p3.remainder := Nat.min_le_left _ _
  show f.grants.sum + p0.grants.sum + p1.grants.sum + p2.grants.sum + p3.grants.sum + p4.grants.sum ≤ ceiling
  omega

/-- A zone's grant is of one class only, so that the zones together get at most what the two classes and storage do. -/
theorem zoneShares_le (t : Tables) (q : Requests) (a : Allotment) :
    (((List.range 8).map (zoneShareOf t q a)).map fun z => z.grant + z.storageGrant).sum ≤
      a.cabs.sum + a.saloons.sum + a.storage.sum := by
  have single (z : Nat) : (zoneShareOf t q a z).grant + (zoneShareOf t q a z).storageGrant ≤
      a.cabs.getD z 0 + a.saloons.getD z 0 + a.storage.getD z 0 := by
    simp only [zoneShareOf]
    split <;> omega
  have cabs := sum_range_getD_le a.cabs 8
  have saloons := sum_range_getD_le a.saloons 8
  have storage := sum_range_getD_le a.storage 8
  rw [List.map_map]
  refine Nat.le_trans (sum_map_le_sum_map fun z _ => single z) ?_
  rw [sum_map_plus, sum_map_plus]
  omega

theorem publicationOf_withinCeiling (t : Tables) (st : SupplyState) {ceiling : Nat} (h : ceiling ≤ 1500) (surplus : Nat)
    (q : Requests) : (publicationOf t st ceiling surplus q (allot ceiling surplus q)).WithinCeiling := by
  refine ⟨?_, h⟩
  have total := allot_total_le ceiling surplus q
  have outputs := shares_grants_le q.f (allot ceiling surplus q).f
  have screens := shares_grants_le q.screens (allot ceiling surplus q).screens
  have zones := zoneShares_le t q (allot ceiling surplus q)
  have doors := shares_grants_le q.doors (allot ceiling surplus q).doors
  simp only [Publication.granted, publicationOf, Allotment.total] at *
  omega

theorem targetIn_le (s : State) (st : SupplyState) : targetIn s st ≤ 1500 := by
  unfold targetIn
  dsimp only
  refine Int.toNat_le.2 (clampInt_bounds (by decide) _).2

theorem nextCeiling_le {s : State} (h : s.supply.ceiling ≤ 1500) (ramp : Bool) {target : Nat} (ht : target ≤ 1500) :
    nextCeiling s ramp target ≤ 1500 := by
  unfold nextCeiling
  dsimp only
  split
  · exact ht
  · split
    · exact Nat.le_trans (Nat.min_le_left _ _) ht
    · exact h

theorem breakAllowance_le (t : Tables) : (globals t).breakAllowance ≤ 1500 := Nat.min_le_right _ _

theorem allocated_ceiling_le {s : State} (h : s.supply.ceiling ≤ 1500) (ramp : Bool) :
    (allocated ramp s).ceiling ≤ 1500 := nextCeiling_le h ramp (targetIn_le _ _)

theorem allocated_withinCeiling {s : State} (h : s.supply.ceiling ≤ 1500) (ramp : Bool) :
    (allocated ramp s).publication.WithinCeiling := publicationOf_withinCeiling _ _ (allocated_ceiling_le h ramp) _ _

/-! ### The publications held -/

theorem grantsBounded_supported : Supported State.GrantsBounded [.ceiling, .lastPub, .publications, .copy] := by
  intro s t same h
  rw [State.GrantsBounded, show t.supply.ceiling = s.supply.ceiling from same .ceiling (by simp),
    show t.supply.lastPub = s.supply.lastPub from same .lastPub (by simp),
    show t.composer.publications = s.composer.publications from same .publications (by simp),
    show t.composer.copy = s.composer.copy from same .copy (by simp)]
  exact h

theorem allocate_grantsBounded {s : State} (h : s.GrantsBounded) (ramp : Bool) : (allocate ramp s).GrantsBounded := by
  obtain ⟨ceiling, -, copy, waiting⟩ := h
  have formed := allocated_withinCeiling ceiling ramp
  refine ⟨allocated_ceiling_le ceiling ramp, formed, copy, fun p hp => ?_⟩
  rcases List.mem_append.1 hp with old | new
  · exact waiting p old
  · rw [List.mem_singleton.1 new]; exact formed

/-- A change of the supply unit that leaves its ceiling within 0..1500 and its publication. -/
theorem State.GrantsBounded.setSupply {s : State} (h : s.GrantsBounded) {u : Supply} (hc : u.ceiling ≤ 1500)
    (hp : u.lastPub = s.supply.lastPub) : (s.setSupply u).GrantsBounded :=
  ⟨hc, hp ▸ h.2.1, h.2.2⟩

theorem enterBreak_grantsBounded {s : State} (h : s.GrantsBounded) : (enterBreak s).GrantsBounded := by
  refine allocate_grantsBounded (grantsBounded_supported.of_only (raise_only _ _) ?_) false
  exact h.setSupply h.1 rfl

theorem enterResuming_grantsBounded {s : State} (h : s.GrantsBounded) : (enterResuming s).GrantsBounded := by
  refine allocate_grantsBounded ?_ false
  exact h.setSupply (breakAllowance_le s.tables) rfl

theorem enterOffWire_grantsBounded {s : State} (h : s.GrantsBounded) : (enterOffWire s).GrantsBounded := by
  refine allocate_grantsBounded ?_ false
  exact h.setSupply h.1 rfl

theorem enterHeld_grantsBounded {s : State} (h : s.GrantsBounded) : (enterHeld s).GrantsBounded := by
  refine allocate_grantsBounded (grantsBounded_supported.of_only (raise_only _ _) ?_) false
  exact h.setSupply h.1 rfl

theorem lineDrops_grantsBounded {s : State} (h : s.GrantsBounded) : (lineDrops s).GrantsBounded := by
  unfold lineDrops
  split
  · split
    · exact enterOffWire_grantsBounded h
    · exact enterBreak_grantsBounded h
  · exact enterBreak_grantsBounded h
  · exact enterBreak_grantsBounded h
  · exact h.setSupply h.1 rfl
  · exact h

theorem takeLineWrite_grantsBounded {s : State} (h : s.GrantsBounded) (v : Int) : (takeLineWrite v s).GrantsBounded := by
  let sampled := s.setSupply { s.supply with lastLine := some (lineSample v) }
  have k : sampled.GrantsBounded := h.setSupply h.1 rfl
  have dropped : (if v < (globals s.tables).breakLevel then lineDrops sampled else sampled).GrantsBounded := by
    split
    · exact lineDrops_grantsBounded k
    · exact k
  unfold takeLineWrite
  dsimp only
  split
  · exact k.setSupply k.1 rfl
  · exact dropped
  · exact dropped
  · exact dropped
  · exact k

theorem takePoleChange_grantsBounded {s : State} (h : s.GrantsBounded) (v : Int) : (takePoleChange v s).GrantsBounded := by
  unfold takePoleChange
  dsimp only
  split
  · split
    · exact h
    · exact enterOffWire_grantsBounded h
  · split
    · split
      · exact enterResuming_grantsBounded h
      · exact enterBreak_grantsBounded h
    · exact h

theorem dropSupplyNotice_grantsBounded {s : State} (h : s.GrantsBounded) (rest : List SupplyNotice) :
    (dropSupplyNotice rest s).GrantsBounded := h.setSupply h.1 rfl

theorem resumeDelayEnds_grantsBounded {s : State} (h : s.GrantsBounded) : (resumeDelayEnds s).GrantsBounded := by
  unfold resumeDelayEnds
  split
  · exact enterResuming_grantsBounded h
  · exact enterHeld_grantsBounded h

theorem longBreakEnds_grantsBounded {s : State} (h : s.GrantsBounded) : (longBreakEnds s).GrantsBounded := by
  have flagged : (raise .longBreak (s.setSupply { s.supply with longBreak := none })).GrantsBounded :=
    grantsBounded_supported.of_only (raise_only _ _) (h.setSupply h.1 rfl)
  unfold longBreakEnds
  dsimp only
  split
  · exact enterOffWire_grantsBounded flagged
  · exact flagged

theorem serveResume_grantsBounded {s : State} (h : s.GrantsBounded) (data : List Byte) :
    (serveResume data s).GrantsBounded := by
  unfold serveResume
  split
  · exact grantsBounded_supported.of_only (reply_only _ _ _) (enterResuming_grantsBounded h)
  all_goals exact grantsBounded_supported.of_only (reply_only _ _ _) h

theorem execPublicationTake_grantsBounded {s t : State} (h : s.GrantsBounded) (e : execPublicationTake s = .next t) :
    t.GrantsBounded := by
  obtain ⟨ceiling, last, -, waiting⟩ := id h
  unfold execPublicationTake at e
  split at e <;> obtain rfl := Host.Outcome.next.inj e
  · rename_i p rest hp
    rw [hp] at waiting
    obtain ⟨first, others⟩ := List.forall_mem_cons.1 waiting
    have taken : (s.setComposer { s.composer with copy := p, publications := rest }).GrantsBounded :=
      ⟨ceiling, last, first, others⟩
    exact grantsBounded_supported.of_only (changeTests_only _) <|
      grantsBounded_supported.of_only (mapOutputs_only _ _ : Only _ _ (fillAll _)) <|
      grantsBounded_supported.of_only (mapOutputs_only _ _ : Only _ _ (formFRequests _)) <|
      grantsBounded_supported.of_only (readMarks_only _) <|
      grantsBounded_supported.of_only (restartHolds_only p _) taken
  · exact h

theorem startPublication_withinCeiling (t : Tables) : (startPublication t).WithinCeiling :=
  ⟨(show (startPublication t).granted = 0 from rfl) ▸ Nat.zero_le _, breakAllowance_le t⟩

theorem exec_keeps_grantsBounded {c : Instr} {s t : State} (hs : s.GrantsBounded) (h : exec c s = .next t) :
    t.GrantsBounded := by
  rcases exec_cases h with ⟨cause, u, -, -, rfl⟩ | only
  · exact ⟨breakAllowance_le _, startPublication_withinCeiling _, startPublication_withinCeiling _, nofun⟩
  · cases c with
    | lineWriteNotice =>
      simp only [exec, execLineWriteNotice] at h
      split at h <;> obtain rfl := Host.Outcome.next.inj h
      · exact takeLineWrite_grantsBounded (dropSupplyNotice_grantsBounded hs _) _
      · exact hs
    | lineLeaveNotice =>
      simp only [exec, execLineLeaveNotice] at h
      split at h <;> obtain rfl := Host.Outcome.next.inj h
      · exact lineDrops_grantsBounded (dropSupplyNotice_grantsBounded hs _)
      · exact hs
    | poleChangeNotice =>
      simp only [exec, execPoleChangeNotice] at h
      split at h <;> obtain rfl := Host.Outcome.next.inj h
      · exact takePoleChange_grantsBounded (dropSupplyNotice_grantsBounded hs _) _
      · exact hs
    | resumeDelayExpiry =>
      exact onExpiry_keeps grantsBounded_supported (k := resumeDelayEnds) (fun s k => resumeDelayEnds_grantsBounded k) hs h
    | longBreakExpiry =>
      exact onExpiry_keeps grantsBounded_supported (k := longBreakEnds) (fun s k => longBreakEnds_grantsBounded k) hs h
    | budgetTimerExpiry =>
      exact onExpiry_keeps grantsBounded_supported (k := budgetTick)
        (fun s k => allocate_grantsBounded (k.setSupply k.1 rfl) true) hs h
    | resume =>
      exact takeRequest_keeps grantsBounded_supported (serve := serveResume)
        (fun d s k => serveResume_grantsBounded k d) hs h
    | publicationTake => exact execPublicationTake_grantsBounded hs h
    | _ => exact grantsBounded_supported.of_only only hs (by simp [partsOf])

/-- Settles O14: only an allocation forms a publication, and every class is served from what the one before it left. -/
theorem grantsBoundedKept : Obligations.GrantsBoundedKept := fun _ _ hs h =>
  grantsBounded_supported.step_keeps (Q := fun _ => True) (fun _ _ q => q) (fun _ _ _ _ => exec_keeps_grantsBounded)
    trivial hs h

end Sys2Proof.Machine
end

section
/-! PROOFS. Classes, fits and fills (7.4, 8.3): O45 and O46; and the conditioning outputs in BREAK and HELD, for O15. -/

namespace Sys2Proof.Machine

-- One theorem at a time: a thread for each of them at once would not fit into the checker's memory bound.
set_option Elab.async false

/-! ### Serving one class -/

theorem serveClass_of_unreached (r : Nat) (qs : List Nat) :
    serveClass false r qs = { grants := qs.map fun _ => 0, remainder := r, short := false } := rfl

theorem serveClass_of_fits {r : Nat} {qs : List Nat} (h : qs.sum ≤ r) :
    serveClass true r qs = { grants := qs, remainder := r - qs.sum, short := false } := by
  simp [serveClass, h]

theorem serveClass_of_short {r : Nat} {qs : List Nat} (h : r < qs.sum) :
    serveClass true r qs = { grants := qs.map fun q => q * r / qs.sum,
                             remainder := r - (qs.map fun q => q * r / qs.sum).sum, short := true } := by
  simp [serveClass, Nat.not_le.2 h]

/-- No source is granted more than it asks for. -/
theorem serveClass_grant_le (reached : Bool) (r : Nat) (qs : List Nat) {i g q : Nat}
    (hg : (serveClass reached r qs).grants[i]? = some g) (hq : qs[i]? = some q) : g ≤ q := by
  cases reached with
  | false =>
    rw [serveClass_of_unreached, List.getElem?_map, hq] at hg
    obtain rfl := Option.some.inj hg
    exact Nat.zero_le _
  | true =>
    rcases Nat.lt_or_ge r qs.sum with short | fits
    · rw [serveClass_of_short short, List.getElem?_map, hq] at hg
      obtain rfl := Option.some.inj hg
      exact Nat.div_le_of_le_mul (Nat.mul_comm qs.sum q ▸ Nat.mul_le_mul_left q (Nat.le_of_lt short))
    · rw [serveClass_of_fits fits, hq] at hg
      obtain rfl := Option.some.inj hg
      exact Nat.le_refl _

/-- Settles O45: the three ways of serving a class one by one. -/
theorem classServed : Obligations.ClassServed := by
  intro reached r qs
  have within := serveClass_le reached r qs
  refine ⟨?length, ?whole, ?shared, ?unreached, by omega, fun i g q => serveClass_grant_le reached r qs⟩
  case length =>
    cases reached with
    | false => simp [serveClass_of_unreached]
    | true =>
      rcases Nat.lt_or_ge r qs.sum with short | fits
      · simp [serveClass_of_short short]
      · simp [serveClass_of_fits fits]
  case whole => rintro rfl fits; simp [serveClass_of_fits fits]
  case shared => rintro rfl short; simp [serveClass_of_short short]
  case unreached => rintro rfl; simp [serveClass_of_unreached]

/-! ### Fitting a value -/

theorem OutputKind.power_zero (kind : OutputKind) (rated : Nat) : kind.power rated 0 = 0 := by
  cases kind <;> simp [OutputKind.power]

theorem OutputCfg.power_zero (o : OutputCfg) : o.power 0 = 0 := OutputKind.power_zero _ _

theorem OutputCfg.power_of_unrated {o : OutputCfg} (h : o.composerRated = 0) (v : Nat) : o.power v = 0 := by
  unfold OutputCfg.power OutputKind.power
  rw [h]
  split
  · simp
  · simp
  · exact ite_self _

theorem greatestFit_power_le (o : OutputCfg) (budget top : Nat) : o.power (greatestFit o budget top) ≤ budget := by
  induction top with
  | zero => exact Nat.le_trans (Nat.le_of_eq o.power_zero) (Nat.zero_le _)
  | succ v ih =>
    unfold greatestFit
    split
    · assumption
    · exact ih

theorem greatestFit_le (o : OutputCfg) (budget top : Nat) : greatestFit o budget top ≤ top := by
  induction top with
  | zero => exact Nat.le_refl _
  | succ v ih =>
    unfold greatestFit
    split
    · exact Nat.le_refl _
    · exact Nat.le_trans ih (Nat.le_succ v)

theorem le_greatestFit {o : OutputCfg} {budget v : Nat} (h : o.power v ≤ budget) {top : Nat} (ht : v ≤ top) :
    v ≤ greatestFit o budget top := by
  induction top with
  | zero => omega
  | succ u ih =>
    unfold greatestFit
    split
    · exact ht
    · rename_i refused
      refine ih (Nat.lt_succ_iff.1 (Nat.lt_of_le_of_ne ht ?_))
      rintro rfl
      exact refused h

theorem OutputCfg.fit_of_unrated {o : OutputCfg} (h : o.composerRated = 0) (demanded budget : Nat) :
    o.fit demanded budget = demanded := if_pos h

theorem OutputCfg.fit_staged {o : OutputCfg} {n : Nat} (hk : o.kind = .staged n) (h : o.composerRated ≠ 0)
    (demanded budget : Nat) : o.fit demanded budget = greatestFit o budget demanded := by
  simp [OutputCfg.fit, h, hk]

theorem OutputCfg.fit_proportional {o : OutputCfg} (hk : o.kind = .proportional) (h : o.composerRated ≠ 0)
    (demanded budget : Nat) : o.fit demanded budget = min demanded (budget * 1000 / o.composerRated) := by
  simp [OutputCfg.fit, h, hk]

theorem OutputCfg.fit_switched {o : OutputCfg} (hk : o.kind = .switched) (h : o.composerRated ≠ 0)
    (demanded budget : Nat) :
    o.fit demanded budget = if demanded ≠ 0 ∧ o.composerRated ≤ budget then 1 else 0 := by
  simp [OutputCfg.fit, h, hk]

theorem OutputCfg.power_proportional {o : OutputCfg} (hk : o.kind = .proportional) (v : Nat) :
    o.power v = o.composerRated * v / 1000 := by simp [OutputCfg.power, OutputKind.power, hk]

theorem OutputCfg.power_switched {o : OutputCfg} (hk : o.kind = .switched) (v : Nat) :
    o.power v = if v = 0 then 0 else o.composerRated := by simp [OutputCfg.power, OutputKind.power, hk]

/-- What a fitted value draws stays within the budget. -/
theorem OutputCfg.fit_power_le (o : OutputCfg) (demanded budget : Nat) : o.power (o.fit demanded budget) ≤ budget := by
  by_cases rated : o.composerRated = 0
  · rw [OutputCfg.power_of_unrated rated]
    exact Nat.zero_le _
  · cases hk : o.kind with
    | staged n => rw [OutputCfg.fit_staged hk rated]; exact greatestFit_power_le o budget demanded
    | proportional =>
      rw [OutputCfg.fit_proportional hk rated, OutputCfg.power_proportional hk]
      refine Nat.div_le_of_le_mul ?_
      calc o.composerRated * min demanded (budget * 1000 / o.composerRated)
          ≤ o.composerRated * (budget * 1000 / o.composerRated) := Nat.mul_le_mul_left _ (Nat.min_le_right _ _)
        _ ≤ budget * 1000 := Nat.mul_div_le _ _
        _ = 1000 * budget := Nat.mul_comm _ _
    | switched =>
      rw [OutputCfg.fit_switched hk rated, OutputCfg.power_switched hk]
      split <;> split <;> simp_all

theorem OutputCfg.fit_le (o : OutputCfg) (demanded budget : Nat) : o.fit demanded budget ≤ demanded := by
  by_cases rated : o.composerRated = 0
  · exact Nat.le_of_eq (OutputCfg.fit_of_unrated rated _ _)
  · cases hk : o.kind with
    | staged n => rw [OutputCfg.fit_staged hk rated]; exact greatestFit_le o budget demanded
    | proportional => rw [OutputCfg.fit_proportional hk rated]; exact Nat.min_le_left _ _
    | switched =>
      rw [OutputCfg.fit_switched hk rated]
      split
      · omega
      · exact Nat.zero_le _

/-- A source's outputs together draw at most its budget: each is fitted to what the ones before left. -/
theorem fillChain_power_le (t : Tables) (budget : Nat) (items : List (Nat × Nat)) :
    ((fillChain t budget items).map fun x => (outputCfg t x.1).power x.2).sum ≤ budget := by
  induction items generalizing budget with
  | nil => exact Nat.zero_le _
  | cons x rest ih =>
    obtain ⟨k, demanded⟩ := x
    have first := (outputCfg t k).fit_power_le demanded budget
    have others := ih (budget - (outputCfg t k).power ((outputCfg t k).fit demanded budget))
    simp only [fillChain, List.map_cons, List.sum_cons]
    omega

/-- Settles O46: fits kind by kind, and a fill by induction on its outputs. -/
theorem fillWithinBudget : Obligations.FillWithinBudget := by
  refine ⟨fun o demanded budget => ?_, fun t budget => ⟨rfl, fun _ _ _ => rfl, fillChain_power_le t budget⟩⟩
  refine ⟨o.fit_power_le _ _, fun _ => o.fit_le _ _, fun rated => OutputCfg.fit_of_unrated rated _ _,
    fun n v hk hv fits rated => ?_, fun hk rated => OutputCfg.fit_proportional hk rated _ _,
    fun hk rated => OutputCfg.fit_switched hk rated _ _⟩
  rw [OutputCfg.fit_staged hk rated]
  exact le_greatestFit fits hv

/-! ### Outputs after an operation on all of them -/

/-- An output after a map over all of them: the mapped one, or a start value where there is none. -/
theorem State.output_mapOutputs (f : Nat → OutputLive → OutputLive) (s : State) (k : Nat) :
    (mapOutputs f s).output k = f k (s.output k) ∨ (mapOutputs f s).output k = {} := by
  show (s.composer.outputs.mapIdx f).getD k {} = f k (s.composer.outputs.getD k {}) ∨
    (s.composer.outputs.mapIdx f).getD k {} = {}
  simp only [List.getD_eq_getElem?_getD, List.getElem?_mapIdx]
  cases s.composer.outputs[k]? with
  | none => exact Or.inr rfl
  | some l => exact Or.inl rfl

theorem State.output_setOutput_cases (s : State) (k : Nat) (x : OutputLive) (j : Nat) :
    (j = k ∧ (s.setOutput k x).output j = x) ∨ (s.setOutput k x).output j = s.output j := by
  by_cases h : j = k
  · subst h
    by_cases hl : j < s.composer.outputs.length
    · exact Or.inl ⟨rfl, s.output_setOutput j x hl⟩
    · refine Or.inr ?_
      show (s.composer.outputs.set j x).getD j {} = s.composer.outputs.getD j {}
      rw [List.set_eq_of_length_le (Nat.not_lt.1 hl)]
  · exact Or.inr (s.output_setOutput_ne k j x h)

/-- An output after an activation: a start value where its own window was replaced, and else the old one. -/
theorem takeActivation_outputs {w : LoadWindow} (hw : w.table = .outputs) (s : State) :
    takeActivation w s = mapOutputs (fun k l => if w.holds k then {} else l) s := by
  unfold takeActivation
  split <;> simp_all only [reduceCtorEq]
  rfl

theorem outputCfg_congr {t u : Tables} {k : Nat} (h : record u .outputs k = record t .outputs k) :
    outputCfg u k = outputCfg t k := by
  unfold outputCfg; rw [h]

/-- Replacing a window leaves each output with its record, or clears it. -/
theorem goLive_output (w : LoadWindow) (buffer : List Byte) (s : State) (k : Nat) :
    let t := goLive w (mergedTable (s.tables.get w.table) w buffer) s
    t.output k = {} ∨ (t.output k = s.output k ∧ record t.tables .outputs k = record s.tables .outputs k) := by
  let u := s.setTables (replacedTables s.tables w buffer)
  show (takeActivation w u).output k = {} ∨ ((takeActivation w u).output k = s.output k ∧
    record (takeActivation w u).tables .outputs k = record s.tables .outputs k)
  have tables : (takeActivation w u).tables = u.tables := takeActivation_only w u .tables (by cases w.table <;> decide)
  rw [tables]
  by_cases hw : w.table = .outputs
  · rw [takeActivation_outputs hw]
    rcases u.output_mapOutputs (fun k l => if w.holds k then {} else l) k with e | e
    · rw [e]
      cases hk : w.holds k with
      | true => exact Or.inl rfl
      | false => exact Or.inr ⟨rfl, record_replaced s.tables w buffer fun _ => hk⟩
    · exact Or.inl e
  · refine Or.inr ⟨?_, record_replaced s.tables w buffer fun e => absurd e hw⟩
    have outputs : (takeActivation w u).composer.outputs = u.composer.outputs :=
      takeActivation_only w u .outputs (by cases hk : w.table <;> simp_all [TableId.parts])
    exact congrArg (List.getD · k {}) outputs

theorem startPart_output (cause : StartCause) (s : State) (k : Nat) : (startPart cause s).output k = {} :=
  getD_of_forall (xs := List.replicate 48 ({} : OutputLive)) (P := fun l : OutputLive => l = {})
    (fun _ hx => List.eq_of_mem_replicate hx) rfl k

/-! ### Conditioning outputs in BREAK and HELD -/

theorem conditioningCut_supported : Supported State.ConditioningCut [.copy, .outputs, .tables] := by
  intro s t same h
  simp only [State.ConditioningCut, State.output, show t.composer.copy = s.composer.copy from same .copy (by simp),
    show t.composer.outputs = s.composer.outputs from same .outputs (by simp),
    show t.tables = s.tables from same .tables (by simp)]
  exact h

/-- An output that stands at 0 and asks for nothing. -/
def OutputLive.Idle (l : OutputLive) : Prop := l.value = 0 ∧ l.fRequest = 0

theorem OutputLive.idle_start : ({} : OutputLive).Idle := ⟨rfl, rfl⟩

theorem State.conditioningCut_iff (s : State) : s.ConditioningCut ↔ ∀ k, heldOff s k = true → (s.output k).Idle := by
  simp only [State.ConditioningCut, heldOff, Bool.and_eq_true, OutputLive.Idle]
  exact ⟨fun h k hk => h hk.1 k hk.2, fun h hc k hk => h k ⟨hc, hk⟩⟩

/-- A map over all outputs that leaves the held-off ones idle. -/
theorem mapOutputs_conditioningCut {f : Nat → OutputLive → OutputLive} {s : State}
    (hf : ∀ k, heldOff s k = true → (f k (s.output k)).Idle) : (mapOutputs f s).ConditioningCut := by
  refine (State.conditioningCut_iff _).2 fun k hk => ?_
  rcases s.output_mapOutputs f k with e | e <;> rw [e]
  · exact hf k hk
  · exact OutputLive.idle_start

theorem forcedValue_of_heldOff {s : State} {k : Nat} (h : heldOff s k = true) (v : Nat) : forcedValue s k v = 0 := by
  simp [forcedValue, h]

theorem fRequestOf_of_heldOff {s : State} {k : Nat} (h : heldOff s k = true) (forced : Option Nat) :
    fRequestOf s k forced = 0 := by
  cases forced <;> simp [fRequestOf, h]

theorem filledValue_of_heldOff {s : State} {k : Nat} (h : heldOff s k = true) (values : List (Nat × Nat)) :
    filledValue s values k = 0 := by
  unfold filledValue
  split
  · split
    · exact forcedValue_of_heldOff h _
    · simp [h]
  · rfl

theorem fillAll_conditioningCut (s : State) : (fillAll (formFRequests s)).ConditioningCut := by
  refine mapOutputs_conditioningCut fun k hk => ⟨filledValue_of_heldOff hk _, ?_⟩
  rcases s.output_mapOutputs (fun k l => { l with fRequest := fRequestOf s k l.forced }) k with e | e <;>
    simp only [formFRequests, e]
  exact fRequestOf_of_heldOff (s := s) hk _

theorem forceOutput_conditioningCut {s : State} (h : s.ConditioningCut) (k v : Nat) :
    (forceOutput k v s).ConditioningCut := by
  refine (State.conditioningCut_iff _).2 fun j hj => ?_
  rcases s.output_setOutput_cases k _ j with ⟨same, e⟩ | e <;> rw [forceOutput, e]
  · subst same
    exact ⟨forcedValue_of_heldOff (s := s) hj v, fRequestOf_of_heldOff (s := s) hj (some v)⟩
  · exact s.conditioningCut_iff.1 h j hj

theorem releaseOutput_conditioningCut {s : State} (h : s.ConditioningCut) (k : Nat) :
    (releaseOutput k s).ConditioningCut := by
  refine mapOutputs_conditioningCut fun j hj => ?_
  have idle := s.conditioningCut_iff.1 h j hj
  unfold OutputLive.released
  split
  · split
    · exact OutputLive.idle_start
    · exact idle
  · exact idle

theorem composerTakesClimate_output (c : Climate) (rest : List Climate) (s : State) (k : Nat) :
    (composerTakesClimate c rest s).output k =
      if c = .standby ∧ (s.output k).forced = none then { s.output k with value := 0 } else s.output k := by
  show (s.composer.outputs.map fun l =>
    if c = .standby ∧ l.forced = none then { l with value := 0 } else l).getD k {} = _
  simp only [State.output, List.getD_eq_getElem?_getD, List.getElem?_map]
  cases s.composer.outputs[k]? with
  | none => simp
  | some l => rfl

theorem composerTakesClimate_conditioningCut {s : State} (h : s.ConditioningCut) (c : Climate) (rest : List Climate) :
    (composerTakesClimate c rest s).ConditioningCut := by
  refine (State.conditioningCut_iff _).2 fun k hk => ?_
  have idle := s.conditioningCut_iff.1 h k hk
  rw [composerTakesClimate_output]
  split
  · exact ⟨rfl, idle.2⟩
  · exact idle

theorem goLive_conditioningCut {s : State} (h : s.ConditioningCut) (w : LoadWindow) (buffer : List Byte) :
    (goLive w (mergedTable (s.tables.get w.table) w buffer) s).ConditioningCut := by
  have copy := goLive_only w (mergedTable (s.tables.get w.table) w buffer) s .copy (by cases w.table <;> decide)
  intro cut k hk
  rcases goLive_output w buffer s k with e | ⟨e, same⟩ <;> rw [e]
  · exact OutputLive.idle_start
  · refine h ((congrArg (fun p : Publication => p.supply.cut) copy).symm.trans cut) k ?_
    rw [← outputCfg_congr same]
    exact hk

theorem exec_keeps_conditioningCut {c : Instr} {s t : State} (hs : s.ConditioningCut) (h : exec c s = .next t) :
    t.ConditioningCut := by
  rcases exec_cases h with ⟨cause, u, -, -, rfl⟩ | only
  · exact fun _ k _ => startPart_output cause u k ▸ OutputLive.idle_start
  · cases c with
    | publicationTake =>
      simp only [exec, execPublicationTake] at h
      split at h <;> obtain rfl := Host.Outcome.next.inj h
      · exact conditioningCut_supported.of_only (changeTests_only _) (fillAll_conditioningCut _)
      · exact hs
    | composerClimateNotice =>
      simp only [exec, execComposerClimateNotice] at h
      split at h <;> obtain rfl := Host.Outcome.next.inj h
      · exact composerTakesClimate_conditioningCut hs _ _
      · exact hs
    | activate =>
      exact takeRequest_keeps conditioningCut_supported (fun data s k => serveActivate_keeps conditioningCut_supported
        (fun w b _ k => goLive_conditioningCut k w b) k data) hs h
    | forceOutput =>
      refine takeRequest_keeps conditioningCut_supported (fun data s k => ?_) hs h
      have answered {t : State} (k : t.ConditioningCut) (st : Status) : (reply 7 st t).ConditioningCut :=
        conditioningCut_supported.of_only (reply_only _ _ _) k
      unfold serveForceOutput
      split
      · split
        · split
          · exact answered (forceOutput_conditioningCut k _ _) _
          · exact answered k _
        · exact answered k _
      · exact answered k _
    | releaseOutput =>
      refine takeRequest_keeps conditioningCut_supported (fun data s k => ?_) hs h
      unfold serveReleaseOutput
      split
      · exact conditioningCut_supported.of_only (reply_only _ _ _) (releaseOutput_conditioningCut k _)
      · exact conditioningCut_supported.of_only (reply_only _ _ _) k
    | _ => exact conditioningCut_supported.of_only only hs (by simp [partsOf])

/-- Settles O15: every write of an output's value looks at what the copy holds off. -/
theorem conditioningCutKept : Obligations.ConditioningCutKept := fun _ _ hs h =>
  conditioningCut_supported.step_keeps (Q := fun _ => True) (fun _ _ q => q) (fun _ _ _ _ => exec_keeps_conditioningCut)
    trivial hs h

end Sys2Proof.Machine
end

section
/-! PROOFS. What the outputs draw (8.3, R142): no more than the grants of the publication last taken, for O16. -/

namespace Sys2Proof.Machine

-- One theorem at a time: a thread for each of them at once would not fit into the checker's memory bound.
set_option Elab.async false

/-! ### Sums over outputs -/

/-- A sum of which one index alone counts. -/
theorem sum_map_le_single {is : List Nat} (hn : is.Nodup) {g : Nat → Nat} {a b : Nat} (h0 : ∀ i, i ≠ a → g i = 0)
    (hb : g a ≤ b) : (is.map g).sum ≤ b := by
  induction is with
  | nil => exact Nat.zero_le _
  | cons i is ih =>
    obtain ⟨fresh, distinct⟩ := List.nodup_cons.1 hn
    rw [List.map_cons, List.sum_cons]
    by_cases h : i = a
    · have others : (is.map g).sum = 0 := sum_map_zero fun j hj => h0 j fun e => fresh (h.trans e.symm ▸ hj)
      rw [others, h]
      exact hb
    · rw [h0 i h, Nat.zero_add]
      exact ih distinct

/-- The value that a fill's results give output k; 0 where they give it none. -/
def givenValue (values : List (Nat × Nat)) (k : Nat) : Nat := ((values.find? fun x => x.1 == k).map (·.2)).getD 0

/-- The power that a fill's results draw on the outputs that `mine` holds of. -/
def powerOf (t : Tables) (mine : Nat → Bool) (values : List (Nat × Nat)) : Nat :=
  ((values.filter fun x => mine x.1).map fun x => (outputCfg t x.1).power x.2).sum

section
variable (t : Tables) (mine : Nat → Bool)

theorem powerOf_cons (x : Nat × Nat) (xs : List (Nat × Nat)) :
    powerOf t mine (x :: xs) = (if mine x.1 then (outputCfg t x.1).power x.2 else 0) + powerOf t mine xs := by
  unfold powerOf
  cases h : mine x.1 <;> simp [h]

theorem powerOf_append (xs ys : List (Nat × Nat)) :
    powerOf t mine (xs ++ ys) = powerOf t mine xs + powerOf t mine ys := by
  simp [powerOf]

theorem powerOf_flatMap (is : List Nat) (f : Nat → List (Nat × Nat)) :
    powerOf t mine (is.flatMap f) = (is.map fun i => powerOf t mine (f i)).sum := by
  induction is with
  | nil => rfl
  | cons i is ih => rw [List.flatMap_cons, powerOf_append, ih, List.map_cons, List.sum_cons]

theorem powerOf_eq_zero {xs : List (Nat × Nat)} (h : ∀ x ∈ xs, mine x.1 = false) : powerOf t mine xs = 0 := by
  have none : xs.filter (fun x => mine x.1) = [] := List.filter_eq_nil_iff.2 fun x hx => by simp [h x hx]
  simp [powerOf, none]

theorem powerOf_le (xs : List (Nat × Nat)) : powerOf t mine xs ≤ (xs.map fun x => (outputCfg t x.1).power x.2).sum := by
  induction xs with
  | nil => exact Nat.le_refl 0
  | cons x xs ih =>
    rw [powerOf_cons, List.map_cons, List.sum_cons]
    refine Nat.add_le_add ?_ ih
    split
    · exact Nat.le_refl _
    · exact Nat.zero_le _

/-- Every output takes the first value it is given, so that different outputs draw on different results. -/
theorem sum_givenValue_le {ks : List Nat} (hk : ks.Nodup) (values : List (Nat × Nat)) :
    (ks.map fun k => if mine k then (outputCfg t k).power (givenValue values k) else 0).sum ≤ powerOf t mine values := by
  induction values with
  | nil => exact Nat.le_of_eq (sum_map_zero fun k _ => by simp [givenValue, OutputCfg.power_zero])
  | cons x xs ih =>
    let first := if mine x.1 then (outputCfg t x.1).power x.2 else 0
    have split (k : Nat) : (if mine k then (outputCfg t k).power (givenValue (x :: xs) k) else 0) ≤
        (if k = x.1 then first else 0) + (if mine k then (outputCfg t k).power (givenValue xs k) else 0) := by
      by_cases h : k = x.1
      · subst h; simp [givenValue, first]
      · have other : givenValue (x :: xs) k = givenValue xs k := by simp [givenValue, Ne.symm h]
        exact Nat.le_of_eq (by rw [other, if_neg h, Nat.zero_add])
    have single : (ks.map fun k => if k = x.1 then first else 0).sum ≤ first :=
      sum_map_le_single hk (fun i hi => if_neg hi) (by simp)
    rw [powerOf_cons]
    refine Nat.le_trans (sum_map_le_sum_map fun k _ => split k) ?_
    rw [sum_map_plus]
    exact Nat.add_le_add single ih

end

/-! ### The outputs of a source's fill -/

theorem fillChain_keys (t : Tables) (budget : Nat) (items : List (Nat × Nat)) :
    (fillChain t budget items).map (·.1) = items.map (·.1) := by
  induction items generalizing budget with
  | nil => rfl
  | cons x rest ih => simp only [fillChain, List.map_cons, ih]

/-- A property of the outputs of a fill is one of the outputs it fills. -/
theorem forall_fillChain {P : Nat → Prop} {t : Tables} {budget : Nat} {items : List (Nat × Nat)}
    (h : ∀ x ∈ items, P x.1) : ∀ x ∈ fillChain t budget items, P x.1 := by
  intro x hx
  have key : x.1 ∈ items.map (·.1) := fillChain_keys t budget items ▸ List.mem_map_of_mem hx
  obtain ⟨y, hy, e⟩ := List.mem_map.1 key
  exact e ▸ h y hy

theorem fillItem_role {s : State} {named : Option Nat} {r : Role} {demand : OutputKind → Nat} {p : Role → Bool}
    (hr : p r = true) : ∀ x ∈ fillItem s (holds s.tables named r) demand, (role s.tables x.1).any p = true := by
  intro x hx
  unfold fillItem at hx
  split at hx
  · rename_i k hk
    split at hx
    · rw [List.mem_singleton.1 hx, ((holds_eq_some _ _ _ _).1 hk).2]
      exact hr
    · cases hx
  · cases hx

theorem mem_byRank {t : Tables} {ks : List Nat} {k : Nat} (h : k ∈ byRank t ks) : k ∈ ks := by
  obtain ⟨r, -, hk⟩ := List.mem_flatMap.1 h
  exact (List.mem_filter.1 hk).1

theorem role_of_conditioning {t : Tables} {z k : Nat} {fn : OutputFn} (h : k ∈ conditioningOutputs t z fn) :
    role t k = some (.conditioning z) := by
  have chosen := (List.mem_filter.1 h).2
  simp only [Bool.and_eq_true, beq_iff_eq] at chosen
  exact chosen.2

theorem fillZone_role (s : State) (z : Nat) : ∀ x ∈ fillZone s z, (role s.tables x.1).any (Role.ofZone z) = true := by
  unfold fillZone
  split
  · refine forall_fillChain (P := fun k => (role s.tables k).any (Role.ofZone z) = true)
      (List.forall_mem_append.2 ⟨List.forall_mem_append.2 ⟨?blower, ?damper⟩, ?conditioning⟩)
    case blower => exact fillItem_role (beq_self_eq_true z)
    case damper => exact fillItem_role (beq_self_eq_true z)
    case conditioning =>
      unfold conditioningItems
      split
      · intro x hx
        obtain ⟨k, hk, rfl⟩ := List.mem_map.1 hx
        have role := role_of_conditioning (List.mem_filter.1 (mem_byRank hk)).1
        simp [role, Role.ofZone]
      · nofun
  · nofun

theorem fillDoor_role (s : State) (d : Nat) : ∀ x ∈ fillDoor s d, (role s.tables x.1).any (Role.ofDoor d) = true := by
  unfold fillDoor
  split
  · refine forall_fillChain (P := fun k => (role s.tables k).any (Role.ofDoor d) = true)
      (List.forall_mem_append.2 ⟨?fan, ?heat⟩)
    case fan => exact fillItem_role (beq_self_eq_true d)
    case heat => exact fillItem_role (beq_self_eq_true d)
  · nofun

theorem fillScreen_role (s : State) (c : Nat) :
    ∀ x ∈ fillScreen s c, (role s.tables x.1).any (Role.ofScreen c) = true := by
  unfold fillScreen
  split
  · exact forall_fillChain (P := fun k => (role s.tables k).any (Role.ofScreen c) = true)
      (fillItem_role (beq_self_eq_true c))
  · nofun

/-- A role that is of one source is of no other. -/
theorem any_eq_false_of_disjoint {r : Option Role} {p q : Role → Bool} (h : r.any p = true)
    (hpq : ∀ x, p x = true → q x = false) : r.any q = false := by
  cases r with
  | none => cases h
  | some x => exact hpq x h

theorem Role.ofZone_ne {z y : Nat} (h : z ≠ y) (r : Role) (hr : r.ofZone z = true) : r.ofZone y = false := by
  cases r <;> simp_all [Role.ofZone]

theorem Role.ofDoor_ne {d e : Nat} (h : d ≠ e) (r : Role) (hr : r.ofDoor d = true) : r.ofDoor e = false := by
  cases r <;> simp_all [Role.ofDoor]

theorem Role.ofScreen_ne {c e : Nat} (h : c ≠ e) (r : Role) (hr : r.ofScreen c = true) : r.ofScreen e = false := by
  cases r <;> simp_all [Role.ofScreen]

theorem Role.of_zone {z : Nat} (r : Role) (hr : r.ofZone z = true) (y : Nat) :
    r.ofDoor y = false ∧ r.ofScreen y = false := by
  cases r <;> simp_all [Role.ofZone, Role.ofDoor, Role.ofScreen]

theorem Role.of_door {d : Nat} (r : Role) (hr : r.ofDoor d = true) (y : Nat) :
    r.ofZone y = false ∧ r.ofScreen y = false := by
  cases r <;> simp_all [Role.ofZone, Role.ofDoor, Role.ofScreen]

theorem Role.of_screen {c : Nat} (r : Role) (hr : r.ofScreen c = true) (y : Nat) :
    r.ofZone y = false ∧ r.ofDoor y = false := by
  cases r <;> simp_all [Role.ofZone, Role.ofDoor, Role.ofScreen]

/-! ### What each source's fill draws -/

section
variable (s : State) (mine : Nat → Bool)

theorem fillZone_power_le (z : Nat) :
    powerOf s.tables mine (fillZone s z) ≤ (zoneShare s z).grant + (zoneShare s z).storageGrant := by
  unfold fillZone
  split
  · exact Nat.le_trans (powerOf_le _ _ _) (fillChain_power_le _ _ _)
  · exact Nat.zero_le _

theorem fillDoor_power_le (d : Nat) : powerOf s.tables mine (fillDoor s d) ≤ (s.composer.copy.doors.getD d {}).grant := by
  unfold fillDoor
  split
  · exact Nat.le_trans (powerOf_le _ _ _) (fillChain_power_le _ _ _)
  · exact Nat.zero_le _

theorem fillScreen_power_le (c : Nat) :
    powerOf s.tables mine (fillScreen s c) ≤ (s.composer.copy.screens.getD c {}).grant := by
  unfold fillScreen
  split
  · exact Nat.le_trans (powerOf_le _ _ _) (fillChain_power_le _ _ _)
  · exact Nat.zero_le _

theorem sourceValues_power : powerOf s.tables mine (sourceValues s) =
    ((List.range 8).map fun z => powerOf s.tables mine (fillZone s z)).sum +
    ((List.range 6).map fun d => powerOf s.tables mine (fillDoor s d)).sum +
    ((List.range 2).map fun c => powerOf s.tables mine (fillScreen s c)).sum := by
  simp only [sourceValues, powerOf_append, powerOf_flatMap]

/-- Grants by index are at most the sum of all of them. -/
theorem sum_range_grants_le {α : Type} (f : α → Nat) (d : α) (hd : f d = 0) (xs : List α) (n : Nat) :
    ((List.range n).map fun i => f (xs.getD i d)).sum ≤ (xs.map f).sum := by
  have same (i : Nat) : f (xs.getD i d) = (xs.map f).getD i 0 := by
    simp only [List.getD_eq_getElem?_getD, List.getElem?_map]
    cases xs[i]? with
    | none => exact hd
    | some x => rfl
  simp only [same]
  exact sum_range_getD_le _ _

theorem sourceValues_power_le : powerOf s.tables mine (sourceValues s) ≤ s.composer.copy.sourceGrants := by
  have zones := Nat.le_trans (sum_map_le_sum_map fun z _ => fillZone_power_le s mine z)
    (sum_range_grants_le (fun x : ZoneShare => x.grant + x.storageGrant) {} rfl s.composer.copy.zones 8)
  have doors := Nat.le_trans (sum_map_le_sum_map fun d _ => fillDoor_power_le s mine d)
    (sum_range_grants_le (fun x : Share => x.grant) {} rfl s.composer.copy.doors 6)
  have screens := Nat.le_trans (sum_map_le_sum_map fun c _ => fillScreen_power_le s mine c)
    (sum_range_grants_le (fun x : Share => x.grant) {} rfl s.composer.copy.screens 2)
  rw [sourceValues_power, Publication.sourceGrants]
  omega

/-- The outputs in the roles of one source. -/
def rolesAre (t : Tables) (p : Role → Bool) (k : Nat) : Bool := (role t k).any p

theorem fillZone_power_zero {z : Nat} {p : Role → Bool} (h : ∀ r, r.ofZone z = true → p r = false) :
    powerOf s.tables (rolesAre s.tables p) (fillZone s z) = 0 :=
  powerOf_eq_zero _ _ fun x hx => any_eq_false_of_disjoint (fillZone_role s z x hx) h

theorem fillDoor_power_zero {d : Nat} {p : Role → Bool} (h : ∀ r, r.ofDoor d = true → p r = false) :
    powerOf s.tables (rolesAre s.tables p) (fillDoor s d) = 0 :=
  powerOf_eq_zero _ _ fun x hx => any_eq_false_of_disjoint (fillDoor_role s d x hx) h

theorem fillScreen_power_zero {c : Nat} {p : Role → Bool} (h : ∀ r, r.ofScreen c = true → p r = false) :
    powerOf s.tables (rolesAre s.tables p) (fillScreen s c) = 0 :=
  powerOf_eq_zero _ _ fun x hx => any_eq_false_of_disjoint (fillScreen_role s c x hx) h

theorem sourceValues_ofZone_le (z : Nat) : powerOf s.tables (rolesAre s.tables (Role.ofZone z)) (sourceValues s) ≤
    (zoneShare s z).grant + (zoneShare s z).storageGrant := by
  rw [sourceValues_power, sum_map_zero fun d _ => fillDoor_power_zero s fun r hr => (r.of_door hr z).1,
    sum_map_zero fun c _ => fillScreen_power_zero s fun r hr => (r.of_screen hr z).1, Nat.add_zero]
  exact sum_map_le_single List.nodup_range (fun y hy => fillZone_power_zero s (Role.ofZone_ne hy))
    (fillZone_power_le s _ z)

theorem sourceValues_ofDoor_le (d : Nat) : powerOf s.tables (rolesAre s.tables (Role.ofDoor d)) (sourceValues s) ≤
    (s.composer.copy.doors.getD d {}).grant := by
  rw [sourceValues_power, sum_map_zero fun z _ => fillZone_power_zero s fun r hr => (r.of_zone hr d).1,
    sum_map_zero fun c _ => fillScreen_power_zero s fun r hr => (r.of_screen hr d).2, Nat.zero_add, Nat.add_zero]
  exact sum_map_le_single List.nodup_range (fun y hy => fillDoor_power_zero s (Role.ofDoor_ne hy))
    (fillDoor_power_le s _ d)

theorem sourceValues_ofScreen_le (c : Nat) :
    powerOf s.tables (rolesAre s.tables (Role.ofScreen c)) (sourceValues s) ≤ (s.composer.copy.screens.getD c {}).grant := by
  rw [sourceValues_power, sum_map_zero fun z _ => fillZone_power_zero s fun r hr => (r.of_zone hr c).2,
    sum_map_zero fun d _ => fillDoor_power_zero s fun r hr => (r.of_door hr c).2, Nat.zero_add]
  exact sum_map_le_single List.nodup_range (fun y hy => fillScreen_power_zero s (Role.ofScreen_ne hy))
    (fillScreen_power_le s _ c)

end

/-! ### After a fill -/

theorem drawn_of_start {s : State} {k : Nat} (h : s.output k = {}) : drawn s k = 0 := by
  rw [drawn, h]
  exact OutputCfg.power_zero _

/-- An output that is not forced draws at most what its source's fill gave it. -/
theorem fillAll_drawn_le (s : State) (k : Nat) (h : ((fillAll s).output k).forced = none) :
    drawn (fillAll s) k ≤ (outputCfg s.tables k).power (givenValue (sourceValues s) k) := by
  rcases s.output_mapOutputs (fun k l => { l with value := filledValue s (sourceValues s) k }) k with e | e
  · have unforced : (s.output k).forced = none := by rw [fillAll, e] at h; exact h
    have value : ((fillAll s).output k).value = 0 ∨
        ((fillAll s).output k).value = givenValue (sourceValues s) k := by
      rw [fillAll, e]
      simp only [filledValue, unforced]
      split
      · split
        · exact Or.inl rfl
        · exact Or.inr rfl
      · exact Or.inl rfl
    show (outputCfg s.tables k).power ((fillAll s).output k).value ≤ _
    rcases value with v | v
    · rw [v, OutputCfg.power_zero]
      exact Nat.zero_le _
    · exact Nat.le_of_eq (by rw [v])
  · exact Nat.le_trans (Nat.le_of_eq (drawn_of_start e)) (Nat.zero_le _)

theorem fillAll_forced_le (s : State) (k : Nat) (h : ((fillAll s).output k).forced.isSome = true) :
    drawn (fillAll s) k ≤ fGrant (fillAll s) k := by
  rcases s.output_mapOutputs (fun k l => { l with value := filledValue s (sourceValues s) k }) k with e | e
  · obtain ⟨v, hv⟩ := Option.isSome_iff_exists.1 (show (s.output k).forced.isSome = true by rw [fillAll, e] at h; exact h)
    show (outputCfg s.tables k).power ((fillAll s).output k).value ≤ fGrant s k
    rw [fillAll, e]
    simp only [filledValue, hv, forcedValue]
    split
    · split
      · exact Nat.le_trans (Nat.le_of_eq (OutputCfg.power_zero _)) (Nat.zero_le _)
      · exact OutputCfg.fit_power_le _ _ _
    · exact Nat.le_trans (Nat.le_of_eq (OutputCfg.power_zero _)) (Nat.zero_le _)
  · exact Nat.le_trans (Nat.le_of_eq (drawn_of_start e)) (Nat.zero_le _)

theorem fillAll_drawBounded (s : State) : (fillAll s).DrawBounded := by
  refine ⟨?_, fun k _ => fillAll_forced_le s k⟩
  refine Nat.le_trans (Nat.le_trans (sum_map_le_sum_map fun k _ => ?_)
    (sum_givenValue_le s.tables (fun _ => true) List.nodup_range _)) (sourceValues_power_le s _)
  split
  · exact Nat.zero_le _
  · rename_i unforced
    exact fillAll_drawn_le s k (by simpa using unforced)

/-- What the outputs of one source draw after a fill is what its fill gave them. -/
theorem fillAll_drawnBy_le (s : State) (p : Role → Bool) :
    drawnBy (fillAll s) p ≤ powerOf s.tables (rolesAre s.tables p) (sourceValues s) := by
  refine Nat.le_trans (sum_map_le_sum_map fun k _ => ?_) (sum_givenValue_le s.tables (rolesAre s.tables p) List.nodup_range _)
  cases forced : ((fillAll s).output k).forced with
  | none =>
    simp only [Option.isNone_none, Bool.true_and]
    split
    · rename_i mine
      rw [if_pos (show rolesAre s.tables p k = true from mine)]
      exact fillAll_drawn_le s k forced
    · exact Nat.zero_le _
  | some v => exact Nat.zero_le _

theorem fillAll_sourcesBounded (s : State) : (fillAll s).SourcesBounded where
  zones z := Nat.le_trans (fillAll_drawnBy_le s _) (sourceValues_ofZone_le s z)
  doors d := Nat.le_trans (fillAll_drawnBy_le s _) (sourceValues_ofDoor_le s d)
  screens c := Nat.le_trans (fillAll_drawnBy_le s _) (sourceValues_ofScreen_le s c)

/-! ### Between two fills -/

/-- Output k is as it was, with its record. -/
def OutputKept (s t : State) (k : Nat) : Prop :=
  t.output k = s.output k ∧ record t.tables .outputs k = record s.tables .outputs k

/-- Output k is not forced and draws nothing, or it is forced and fits its F grant. -/
def OutputWithin (t : State) (k : Nat) : Prop :=
  ((t.output k).forced = none ∧ (t.output k).value = 0) ∨
  ((t.output k).forced.isSome = true ∧ drawn t k ≤ fGrant t k)

/-- Between two fills an output keeps its draw, or comes within what it may draw by itself. -/
def OutputsCurbed (s t : State) : Prop :=
  t.composer.copy = s.composer.copy ∧ ∀ k, OutputKept s t k ∨ OutputWithin t k

/-- The outputs and what they are read with agree. -/
def SameOutputs (s t : State) : Prop := ∀ p ∈ [Part.copy, .outputs, .tables], p.Same s t

theorem Part.Same.output {s t : State} (h : Part.outputs.Same s t) (k : Nat) : t.output k = s.output k :=
  congrArg (fun xs : List OutputLive => xs.getD k {}) h

theorem sameOutputs_supported (s : State) : Supported (SameOutputs s) [.copy, .outputs, .tables] :=
  fun _ _ same h p hp => (h p hp).trans (same p hp)

theorem SameOutputs.curbed {s t : State} (h : SameOutputs s t) : OutputsCurbed s t := by
  refine ⟨h .copy (by simp), fun k => Or.inl ⟨?_, ?_⟩⟩
  · exact Part.Same.output (h .outputs (by simp)) k
  · rw [show t.tables = s.tables from h .tables (by simp)]

theorem outputsCurbed_supported (s : State) : Supported (OutputsCurbed s) [.copy, .outputs, .tables] := by
  intro t u same h
  have outputs : u.output = t.output := funext (Part.Same.output (same .outputs (by simp)))
  simp only [OutputsCurbed, OutputKept, OutputWithin, drawn, fGrant, outputs,
    show u.composer.copy = t.composer.copy from same .copy (by simp), show u.tables = t.tables from same .tables (by simp)]
  exact h

theorem OutputWithin.of_start {t : State} {k : Nat} (h : t.output k = {}) : OutputWithin t k := by
  rw [OutputWithin, h]
  exact Or.inl ⟨rfl, rfl⟩

section
variable {s u : State} (same : SameOutputs s u)
include same

theorem SameOutputs.kept {t : State} {k : Nat} (h : OutputKept u t k) : OutputKept s t k := by
  have outputs : u.output k = s.output k := Part.Same.output (same .outputs (by simp)) k
  obtain ⟨output, record⟩ := h
  rw [show u.tables = s.tables from same .tables (by simp)] at record
  exact ⟨output.trans outputs, record⟩

theorem SameOutputs.curbed_of {t : State} (copy : t.composer.copy = u.composer.copy)
    (h : ∀ k, OutputKept u t k ∨ OutputWithin t k) : OutputsCurbed s t :=
  ⟨copy.trans (same .copy (by simp)), fun k => (h k).imp_left same.kept⟩

theorem goLive_curbed (w : LoadWindow) (buffer : List Byte) :
    OutputsCurbed s (goLive w (mergedTable (u.tables.get w.table) w buffer) u) := by
  refine same.curbed_of (goLive_only w _ u .copy (by cases w.table <;> decide)) fun k => ?_
  rcases goLive_output w buffer u k with e | ⟨e, record⟩
  · exact Or.inr (.of_start e)
  · exact Or.inl ⟨e, record⟩

theorem forceOutput_curbed (k v : Nat) : OutputsCurbed s (forceOutput k v u) := by
  refine same.curbed_of rfl fun j => ?_
  rcases u.output_setOutput_cases k { u.output k with
    forced := some v, value := forcedValue u k v, fRequest := fRequestOf u k (some v) } j with ⟨rfl, e⟩ | e
  · refine Or.inr (Or.inr ⟨by rw [forceOutput, e]; rfl, ?_⟩)
    show (outputCfg u.tables j).power ((forceOutput j v u).output j).value ≤ fGrant u j
    rw [forceOutput, e]
    simp only [forcedValue]
    split
    · exact Nat.le_trans (Nat.le_of_eq (OutputCfg.power_zero _)) (Nat.zero_le _)
    · exact OutputCfg.fit_power_le _ _ _
  · exact Or.inl ⟨e, rfl⟩

theorem releaseOutput_curbed (k : Nat) : OutputsCurbed s (releaseOutput k u) := by
  refine same.curbed_of rfl fun j => ?_
  rcases u.output_mapOutputs (fun i l => if k = 255 ∨ i = k then l.released else l) j with e | e
  · by_cases forced : (k = 255 ∨ j = k) ∧ (u.output j).forced.isSome = true
    · refine Or.inr (Or.inl ?_)
      rw [releaseOutput, e, if_pos forced.1, OutputLive.released, if_pos forced.2]
      exact ⟨rfl, rfl⟩
    · refine Or.inl ⟨e.trans ?_, rfl⟩
      split
      · rename_i named
        exact if_neg fun h => forced ⟨named, h⟩
      · rfl
  · exact Or.inr (.of_start e)

theorem composerTakesClimate_curbed (c : Climate) (rest : List Climate) :
    OutputsCurbed s (composerTakesClimate c rest u) := by
  refine same.curbed_of rfl fun k => ?_
  have output := composerTakesClimate_output c rest u k
  split at output
  · rename_i h
    refine Or.inr (Or.inl ?_)
    rw [output]
    exact ⟨h.2, rfl⟩
  · exact Or.inl ⟨output, rfl⟩

end

/-- A command starts the part, fills the outputs anew, or curbs them. -/
theorem exec_outputs_cases {c : Instr} {s t : State} (h : exec c s = .next t) :
    Started s t ∨ (∃ u, SameOutputs (fillAll u) t) ∨ OutputsCurbed s t := by
  have here : SameOutputs s s := fun p _ => p.same_refl s
  have requested {code : Nat} {serve : List Byte → State → State}
      (hs : ∀ data u, SameOutputs s u → OutputsCurbed s (serve data u)) (e : takeRequest code serve s = .next t) :
      OutputsCurbed s t :=
    takeRequest_leads (sameOutputs_supported s) (fun _ k => k.curbed) hs here e
  have answered {code : Nat} {st : Status} {u : State} (k : OutputsCurbed s u) : OutputsCurbed s (reply code st u) :=
    (outputsCurbed_supported s).of_only (reply_only _ _ _) k
  refine (exec_cases h).imp_right fun only => ?_
  cases c with
  | publicationTake =>
    simp only [exec, execPublicationTake] at h
    split at h <;> obtain rfl := Host.Outcome.next.inj h
    · exact Or.inl ⟨_, (sameOutputs_supported _).of_only (changeTests_only _) fun p _ => p.same_refl _⟩
    · exact Or.inr here.curbed
  | composerClimateNotice =>
    simp only [exec, execComposerClimateNotice] at h
    split at h <;> obtain rfl := Host.Outcome.next.inj h
    · exact Or.inr (composerTakesClimate_curbed here _ _)
    · exact Or.inr here.curbed
  | activate =>
    refine Or.inr (requested (fun data u k => ?_) h)
    exact serveActivate_leads (outputsCurbed_supported s) (fun _ k => k.curbed) (fun w b _ k => goLive_curbed k w b) k data
  | forceOutput =>
    refine Or.inr (requested (fun data u k => ?_) h)
    unfold serveForceOutput
    split
    · split
      · split
        · exact answered (forceOutput_curbed k _ _)
        · exact answered k.curbed
      · exact answered k.curbed
    · exact answered k.curbed
  | releaseOutput =>
    refine Or.inr (requested (fun data u k => ?_) h)
    unfold serveReleaseOutput
    split
    · exact answered (releaseOutput_curbed k _)
    · exact answered k.curbed
  | _ => exact Or.inr (SameOutputs.curbed fun p hp => only p (by revert p hp; simp [partsOf]))

/-! ### The sum over all outputs -/

theorem drawBounded_supported : Supported State.DrawBounded [.copy, .outputs, .tables] := by
  intro s t same h
  have outputs : t.output = s.output := funext (Part.Same.output (same .outputs (by simp)))
  simp only [State.DrawBounded, drawn, fGrant, outputs,
    show t.composer.copy = s.composer.copy from same .copy (by simp), show t.tables = s.tables from same .tables (by simp)]
  exact h

theorem OutputKept.drawn {s t : State} {k : Nat} (h : OutputKept s t k) : drawn t k = drawn s k := by
  obtain ⟨output, record⟩ := h
  rw [Machine.drawn, Machine.drawn, output, outputCfg_congr record]

theorem OutputsCurbed.drawBounded {s t : State} (h : OutputsCurbed s t) (hs : s.DrawBounded) : t.DrawBounded := by
  obtain ⟨copy, outputs⟩ := h
  obtain ⟨sum, forced⟩ := hs
  refine ⟨?_, fun k hk e => ?_⟩
  · rw [copy]
    refine Nat.le_trans (sum_map_le_sum_map fun k _ => ?_) sum
    rcases outputs k with kept | ⟨unforced, zero⟩ | ⟨isForced, -⟩
    · exact Nat.le_of_eq (by rw [kept.drawn, kept.1])
    · rw [Machine.drawn, zero, OutputCfg.power_zero, ite_self]
      exact Nat.zero_le _
    · rw [if_pos isForced]
      exact Nat.zero_le _
  · rcases outputs k with kept | ⟨unforced, -⟩ | ⟨-, fits⟩
    · rw [kept.drawn]
      rw [kept.1] at e
      simpa only [fGrant, copy] using forced k hk e
    · rw [unforced] at e; cases e
    · exact fits

theorem drawBounded_of_start {s : State} (h : ∀ k, s.output k = {}) : s.DrawBounded := by
  refine ⟨?_, fun k _ e => by rw [h k] at e; cases e⟩
  rw [sum_map_zero fun k _ => by rw [drawn_of_start (h k), ite_self]]
  exact Nat.zero_le _

theorem exec_keeps_drawBounded {c : Instr} {s t : State} (hs : s.DrawBounded) (h : exec c s = .next t) :
    t.DrawBounded := by
  rcases exec_outputs_cases h with ⟨cause, u, -, -, rfl⟩ | ⟨u, same⟩ | curbed
  · exact drawBounded_of_start (startPart_output cause u)
  · exact drawBounded_supported _ _ same (fillAll_drawBounded u)
  · exact curbed.drawBounded hs

/-! ### Source by source -/

/-- The zone, door and screen tables agree. -/
def SameSources (t u : Tables) : Prop := u.zones = t.zones ∧ u.doors = t.doors ∧ u.screens = t.screens

theorem validOutputField_names (t : Tables) (r : Rec) (i k : Nat) :
    (validOutputField t r i == some k) = (outputField r i == some k && (outputCfg t k).valid) := by
  unfold validOutputField
  split
  · rename_i j hj
    rw [hj]
    by_cases h : j = k
    · subst h
      cases hv : (outputCfg t j).valid <;> simp
    · split <;> simp [h]
  · rename_i hj
    simp [hj]

theorem screenHeaterField_names (t : Tables) (c : Nat) (r : Rec) (k : Nat) :
    (screenHeaterField t c r == some k) = (outputField r 4 == some k && (outputCfg t k).valid &&
      decide ((outputCfg t k).function = some .screenHeat ∧ (outputCfg t k).source = some (.screen c))) := by
  rw [← validOutputField_names]
  unfold screenHeaterField
  split
  · rename_i j hj
    rw [hj]
    by_cases h : j = k
    · subst h
      split <;> simp_all
    · split <;> simp [h]
  · rename_i hj
    simp [hj]

/-- An output's role depends on its own record and on the zone, door and screen tables. -/
theorem role_congr {t u : Tables} (h : SameSources t u) {k : Nat}
    (hk : record u .outputs k = record t .outputs k) : role u k = role t k := by
  obtain ⟨hz, hd, hc⟩ := h
  have cfg := outputCfg_congr hk
  have zones (z : Nat) : record u .zones z = record t .zones z := congrArg (List.getD · z []) hz
  have doors (d : Nat) : record u .doors d = record t .doors d := congrArg (List.getD · d []) hd
  have screens (c : Nat) : record u .screens c = record t .screens c := congrArg (List.getD · c []) hc
  have named : namedRole u k = namedRole t k := by
    simp only [namedRole, zoneCfg, doorCfg, screenCfg, validOutputField_names, screenHeaterField_names, zones, doors,
      screens, cfg]
  simp only [role, cfg, named]

theorem sourcesBounded_supported : Supported State.SourcesBounded [.copy, .outputs, .tables] := by
  intro s t same h
  have outputs : t.output = s.output := funext (Part.Same.output (same .outputs (by simp)))
  have by' (mine : Role → Bool) : drawnBy t mine = drawnBy s mine := by
    simp only [drawnBy, drawn, outputs, show t.tables = s.tables from same .tables (by simp)]
  have copy : t.composer.copy = s.composer.copy := same .copy (by simp)
  exact { zones := fun z => by rw [by', copy]; exact h.zones z
          doors := fun d => by rw [by', copy]; exact h.doors d
          screens := fun c => by rw [by', copy]; exact h.screens c }

theorem OutputsCurbed.drawnBy_le {s t : State} (h : OutputsCurbed s t) (hs : SameSources s.tables t.tables)
    (mine : Role → Bool) : drawnBy t mine ≤ drawnBy s mine := by
  refine sum_map_le_sum_map fun k _ => ?_
  rcases h.2 k with kept | ⟨-, zero⟩ | ⟨isForced, -⟩
  · exact Nat.le_of_eq (by rw [kept.drawn, kept.1, role_congr hs kept.2])
  · rw [drawn, zero, OutputCfg.power_zero, ite_self]
    exact Nat.zero_le _
  · rw [Option.isNone_eq_false_iff.2 isForced]
    exact Nat.zero_le _

theorem OutputsCurbed.sourcesBounded {s t : State} (h : OutputsCurbed s t) (hs : SameSources s.tables t.tables)
    (b : s.SourcesBounded) : t.SourcesBounded where
  zones z := by rw [h.1]; exact Nat.le_trans (h.drawnBy_le hs _) (b.zones z)
  doors d := by rw [h.1]; exact Nat.le_trans (h.drawnBy_le hs _) (b.doors d)
  screens c := by rw [h.1]; exact Nat.le_trans (h.drawnBy_le hs _) (b.screens c)

theorem sourcesBounded_of_start {s : State} (h : ∀ k, s.output k = {}) : s.SourcesBounded := by
  have none (mine : Role → Bool) : drawnBy s mine = 0 :=
    sum_map_zero fun k _ => by rw [drawn_of_start (h k), ite_self]
  exact { zones := fun _ => Nat.le_trans (Nat.le_of_eq (none _)) (Nat.zero_le _)
          doors := fun _ => Nat.le_trans (Nat.le_of_eq (none _)) (Nat.zero_le _)
          screens := fun _ => Nat.le_trans (Nat.le_of_eq (none _)) (Nat.zero_le _) }

theorem exec_keeps_sourcesBounded {c : Instr} {s t : State} (hs : s.SourcesBounded) (h : exec c s = .next t)
    (tables : SameSources s.tables t.tables) : t.SourcesBounded := by
  rcases exec_outputs_cases h with ⟨cause, u, -, -, rfl⟩ | ⟨u, same⟩ | curbed
  · exact sourcesBounded_of_start (startPart_output cause u)
  · exact sourcesBounded_supported _ _ same (fillAll_sourcesBounded u)
  · exact curbed.sourcesBounded tables hs

/-- Settles O16: after a fill by what each source's fill draws, between two fills because outputs only come down. -/
theorem drawBoundedKept : Obligations.DrawBoundedKept := by
  refine ⟨fun s t hs h => ?_, fun s t hs h zones doors screens => ?_⟩
  · exact drawBounded_supported.step_keeps (Q := fun _ => True) (fun _ _ q => q)
      (fun _ _ _ _ => exec_keeps_drawBounded) trivial hs h
  · rcases step_cases h with rfl | ⟨c, rest, h⟩
    · exact sourcesBounded_supported.of_only (elapse_only s _) hs
    · exact exec_keeps_sourcesBounded (sourcesBounded_supported.of_only (setPending_only s rest) hs) h
        ⟨zones, doors, screens⟩

end Sys2Proof.Machine
end

section
/-! PROOFS. The override stack (chapter 9), for O17; and the reset state's invariants, for O9. -/

namespace Sys2Proof.Machine

-- One theorem at a time: a thread for each of them at once would not fit into the checker's memory bound.
set_option Elab.async false

/-! ### Entries -/

theorem stackSound_supported : Supported State.StackSound [.entries, .stackClimate, .tables] := by
  intro s t same ⟨depth, unique, valid, parked⟩
  have entries : t.overrides.entries = s.overrides.entries := same .entries (by simp)
  have climate : t.overrides.climate = s.overrides.climate := same .stackClimate (by simp)
  have tables : t.tables = s.tables := same .tables (by simp)
  exact ⟨by rwa [entries], by rwa [entries], by rwa [entries, tables], by rwa [entries, climate]⟩

theorem stackSound_of_empty {s : State} (h : s.overrides.entries = []) : s.StackSound :=
  ⟨by simp [h], by simp [h], by simp [h], fun _ => h⟩

/-- Taking entries out keeps the stack sound. -/
theorem State.StackSound.sublist {s t : State} (h : s.StackSound)
    (he : t.overrides.entries.Sublist s.overrides.entries) (hc : t.overrides.climate = s.overrides.climate)
    (ht : t.tables = s.tables) : t.StackSound where
  depth := Nat.le_trans he.length_le h.depth
  unique := h.unique.sublist (he.map _)
  valid e hm := ht ▸ h.valid e (he.subset hm)
  parked e := List.sublist_nil.1 (h.parked (hc ▸ e) ▸ he)

theorem setEntries_stackSound {s : State} (h : s.StackSound) {es : List StackEntry}
    (he : es.Sublist s.overrides.entries) : (setEntries es s).StackSound := h.sublist he rfl rfl

theorem withoutPreset_sublist (es : List StackEntry) (p : Nat) : (withoutPreset es p).Sublist es := List.filter_sublist

theorem rejectDesk_stackSound {s : State} (h : s.StackSound) : (rejectDesk s).StackSound :=
  stackSound_supported.of_only (raise_only _ _) h

/-- A push puts a valid preset on top of at most three others. -/
theorem pushPreset_stackSound {s : State} (h : s.StackSound) (active : s.overrides.climate = .active) {p : Nat}
    (hp : p < 8 ∧ (presetCfg s.tables p).valid = true) : (pushPreset p s).StackSound := by
  let others := (withoutPreset s.overrides.entries p).take (Config.stackDepth - 1)
  have fewer : others.Sublist (withoutPreset s.overrides.entries p) := List.take_sublist _ _
  have kept : others.Sublist s.overrides.entries := fewer.trans (withoutPreset_sublist _ _)
  have other : ∀ e ∈ others, e.preset ≠ p := fun e he => by
    simpa using (List.mem_filter.1 (fewer.subset he)).2
  have pushed : (setEntries ({ preset := p, lifetime := lifetimeTimer s p } :: others) s).StackSound :=
    { depth := Nat.succ_le_succ (List.length_take_le _ _)
      unique := List.nodup_cons.2 ⟨fun hm => by
        obtain ⟨e, he, same⟩ := List.mem_map.1 hm
        exact other e he same, h.unique.sublist (kept.map _)⟩
      valid := List.forall_mem_cons.2 ⟨hp, fun e he => h.valid e (kept.subset he)⟩
      parked := fun standby => by rw [show s.overrides.climate = .standby from standby] at active; cases active }
  exact stackSound_supported.of_only (raiseWhen_only _ _ _) pushed

theorem dealDesk_stackSound {s : State} (h : s.StackSound) (data : List Byte) : (dealDesk data s).StackSound := by
  unfold dealDesk
  split
  · exact rejectDesk_stackSound h
  · rename_i active
    split
    · unfold doPush
      split
      · exact pushPreset_stackSound h active ‹_›
      · exact rejectDesk_stackSound h
    · unfold doRemove
      split
      · exact setEntries_stackSound h (withoutPreset_sublist _ _)
      · exact rejectDesk_stackSound h
    · unfold doPop
      split
      · rename_i rest entries
        exact setEntries_stackSound h (entries ▸ List.sublist_cons_self _ _)
      · exact rejectDesk_stackSound h
    · exact setEntries_stackSound h (List.nil_sublist _)
    all_goals exact rejectDesk_stackSound h

theorem takeDesk_stackSound {isMine : List Byte → Bool} {s t : State} (hs : s.StackSound)
    (h : takeDesk isMine s = .next t) : t.StackSound := by
  rcases takeDesk_cases isMine s with e | ⟨data, rest, -, -, e⟩ <;> obtain rfl := Host.Outcome.next.inj (e.symm.trans h)
  · exact hs
  · exact dealDesk_stackSound (stackSound_supported.of_only (dropHandOff_only rest s) hs) data

theorem takeActivation_presets {w : LoadWindow} (hw : w.table = .presets) (s : State) :
    takeActivation w s = s.setOverrides { s.overrides with
      entries := prunedStack s.tables w s.overrides.entries } := by
  unfold takeActivation; split <;> simp_all only [reduceCtorEq]

theorem presetCfg_congr {t u : Tables} {p : Nat} (h : record u .presets p = record t .presets p) :
    presetCfg u p = presetCfg t p := by
  unfold presetCfg; rw [h]

/-- An activation of presets takes out those of its window that are no longer valid; the others' records stay. -/
theorem goLive_stackSound {s : State} (h : s.StackSound) (w : LoadWindow) (buffer : List Byte) :
    (goLive w (mergedTable (s.tables.get w.table) w buffer) s).StackSound := by
  let u := s.setTables (replacedTables s.tables w buffer)
  show (takeActivation w u).StackSound
  by_cases hw : w.table = .presets
  · rw [takeActivation_presets hw]
    have fewer : (prunedStack u.tables w s.overrides.entries).Sublist s.overrides.entries := List.filter_sublist
    refine ⟨Nat.le_trans fewer.length_le h.depth, h.unique.sublist (fewer.map _), fun e he => ?_, fun standby => ?_⟩
    · obtain ⟨below, valid⟩ := h.valid e (fewer.subset he)
      refine ⟨below, ?_⟩
      cases hold : w.holds e.preset with
      | true => simpa [hold] using (List.mem_filter.1 he).2
      | false =>
        show (presetCfg (replacedTables s.tables w buffer) e.preset).valid = true
        rw [presetCfg_congr (record_replaced s.tables w buffer fun _ => hold)]
        exact valid
    · exact List.sublist_nil.1 (h.parked standby ▸ fewer)
  · have replaced : u.StackSound :=
      { depth := h.depth
        unique := h.unique
        valid := fun e he => by
          have kept : presetCfg u.tables e.preset = presetCfg s.tables e.preset :=
            presetCfg_congr (record_replaced s.tables w buffer fun e => absurd e hw)
          rw [kept]
          exact h.valid e he
        parked := h.parked }
    refine stackSound_supported.of_only (takeActivation_only w u) replaced ?_
    cases hk : w.table <;> simp_all [TableId.parts]

theorem stackTakesClimate_stackSound {s : State} (h : s.StackSound) (c : Climate) (rest : List Climate) :
    (stackTakesClimate c rest s).StackSound := by
  cases c with
  | standby => exact stackSound_of_empty rfl
  | active => exact ⟨h.depth, h.unique, h.valid, nofun⟩

theorem exec_keeps_stackSound {c : Instr} {s t : State} (q : s.InitQuiet) (hs : s.StackSound)
    (h : exec c s = .next t) : t.StackSound := by
  rcases exec_cases h with ⟨cause, u, -, -, rfl⟩ | only
  · exact stackSound_of_empty rfl
  · cases c with
    | initEnd =>
      cases hp : s.phase <;> simp only [exec, execInitEnd, hp] at h <;> obtain rfl := Host.Outcome.next.inj h
      · exact stackSound_of_empty (q hp).overrides.2.2
      · exact hs
    | push | pop | remove | clear | deskReject => exact takeDesk_stackSound hs h
    | lifetimeExpiry p =>
      exact onExpiry_keeps stackSound_supported (k := lapse p)
        (fun s k => setEntries_stackSound k (withoutPreset_sublist _ _)) hs h
    | stackClimateNotice =>
      simp only [exec, execStackClimateNotice] at h
      split at h <;> obtain rfl := Host.Outcome.next.inj h
      · exact stackTakesClimate_stackSound hs _ _
      · exact hs
    | activate =>
      exact takeRequest_keeps stackSound_supported (fun data s k => serveActivate_keeps stackSound_supported
        (fun w b _ k => goLive_stackSound k w b) k data) hs h
    | _ => exact stackSound_supported.of_only only hs (by simp [partsOf])

/-- Settles O17: entries come by a PUSH in ACTIVE alone; INIT_END finds the stack empty. -/
theorem stackSoundKept : Obligations.StackSoundKept := fun _ _ q hs h =>
  stackSound_supported.step_keeps (Q := State.InitQuiet) (fun _ rest q => q.setPending rest)
    (fun _ _ _ q hs e => exec_keeps_stackSound q hs e) q hs h

/-! ### The reset state -/

/-- The reset state is a start's, but for a part that no invariant reads. -/
theorem reset_only_start : Only [] (startPart .power State.reset) State.reset := by
  rw [startPart_of_blank rfl rfl]
  exact setFreeIndex_only _ 0

theorem Image.blank_shaped : Image.blank.Shaped := ⟨Tables.defaults_shaped, rfl⟩

/-- Settles O9: every invariant holds after a start, and the reset state agrees with a start's. -/
theorem resetMeetsInvariants : Obligations.ResetMeetsInvariants := by
  have moved {P : State → Prop} {ps : List Part} (hP : Supported P ps) (h : P (startPart .power State.reset)) :
      P State.reset := hP.of_only reset_only_start h (by simp)
  have outputs := startPart_output .power State.reset
  refine ⟨moved shaped_supported (startPart_shaped Image.blank_shaped Tables.defaults_shaped),
    moved portsSound_supported (startPart_portsSound _ _),
    ⟨fun l hl => ?_, fun l hl => ?_, nofun, nofun⟩,
    AllAt.replicate (P := ZoneBoundedAt _) fun z => zoneBoundedAt_start _ z,
    AllAt.replicate (P := DoorBoundedAt _) fun d => DoorLive.bounded_start _,
    fun l hl => ?_,
    ⟨by decide, ⟨by decide, by decide⟩, ⟨by decide, by decide⟩, nofun⟩,
    moved conditioningCut_supported fun _ k _ => outputs k ▸ OutputLive.idle_start,
    moved drawBounded_supported (drawBounded_of_start outputs),
    moved sourcesBounded_supported (sourcesBounded_of_start outputs), stackSound_of_empty rfl, fun _ => ?_⟩
  · exact List.eq_of_mem_replicate hl ▸ SlotLive.timerSound_start
  · exact List.eq_of_mem_replicate hl ▸ DoorLive.timersSound_start
  · exact List.eq_of_mem_replicate hl ▸ ScreenLive.levelled_start
  · have q := startPart_quiet .power State.reset
    rw [startPart_of_blank rfl rfl] at q
    exact ⟨q.bp, q.fp, q.binder, q.slots, q.notices, q.zones, q.doors, q.screens, q.supply, q.composer, q.overrides, q.mgmt⟩

end Sys2Proof.Machine
end

section
/-! PROOFS. The ports' commands (chapter 1), flags and reports (10.5), and the end of INIT: O7, O18 to O23. -/

namespace Sys2Proof.Machine

-- One theorem at a time: a thread for each of them at once would not fit into the checker's memory bound.
set_option Elab.async false

/-! ### Reception -/

theorem onBus_of_running {s : State} {p : PortId} (h : s.phase = .running) (hb : (s.port p).err ≠ .busOff) :
    s.onBus p = true := by
  simp [State.onBus, h, hb]

theorem onBus_of_off {s : State} {p : PortId} (h : s.phase = .init ∨ (s.port p).err = .busOff) : s.onBus p = false := by
  rcases h with h | h <;> simp [State.onBus, h]

/-- Settles O18, on the bus with and without room, and off it. -/
theorem receptionQueuesOrOverruns : Obligations.ReceptionQueuesOrOverruns := by
  intro p f s hf
  have received : exec (.frameReception p f) s = .next (if s.onBus p then receive p f s else s) := if_pos hf
  have failed : exec (.rxError p) s = .next (if s.onBus p then countRxError p s else s) := rfl
  refine ⟨fun hr hb => ?_, fun off => ?_⟩
  · rw [received, failed, onBus_of_running hr hb]
    refine ⟨fun room => ?_, fun full => ?_, rfl⟩
    · exact congrArg _ (if_pos room)
    · exact congrArg _ ((if_neg (Nat.not_lt.2 full)).trans (by cases p <;> rfl))
  · rw [received, failed, onBus_of_off off]
    exact ⟨rfl, rfl⟩

/-! ### Flags and reports -/

theorem Flag.mask_eq (f : Flag) : f.mask = BitVec.twoPow 22 f.bit := rfl

theorem Flag.mask_ne_zero (f : Flag) : f.mask ≠ 0 := by cases f <;> decide

theorem and_mask (w : BitVec 22) (f : Flag) : w &&& f.mask = if w.getLsbD f.bit then f.mask else 0 :=
  BitVec.and_twoPow w f.bit

theorem hasFlag_iff (w : BitVec 22) (f : Flag) : hasFlag w f = true ↔ w &&& f.mask = f.mask := by
  rw [hasFlag, bne_iff_ne, and_mask]
  split
  · exact iff_of_true f.mask_ne_zero rfl
  · exact iff_of_false (fun h => h rfl) f.mask_ne_zero.symm

theorem or_mask_of_hasFlag {w : BitVec 22} {f : Flag} (h : hasFlag w f = true) : w ||| f.mask = w := by
  rw [← (hasFlag_iff w f).1 h]
  ext i hi
  simp only [BitVec.getElem_or, BitVec.getElem_and]
  cases w[i] <;> simp

theorem Port.put_of_dropped {p : Port} {c : TxClass} {x : QueuedFrame} (h : p.outcome c x.origin = .dropped) :
    p.put c x = { p with counters := { p.counters with txDrop := satAdd p.counters.txDrop 1 } } := by
  simp only [Port.put, h]

/-- What a dropped report leaves: TX_DROP set beside the flags it would have told, and the queues as they were. -/
theorem reportPut_of_dropped {s : State} {bp : Port} (h : bp.outcome .urgent .eventReport = .dropped) (w : BitVec 22) :
    (reportPut s bp w).2 = w ||| Flag.txDrop.mask ∧ (reportPut s bp w).1.urgent = bp.urgent ∧
      (reportPut s bp w).1.control = bp.control ∧ (reportPut s bp w).1.bulk = bp.bulk := by
  have first (v : BitVec 22) : bp.put .urgent (eventReport s v) =
      { bp with counters := { bp.counters with txDrop := satAdd bp.counters.txDrop 1 } } := Port.put_of_dropped h
  have again (v : BitVec 22) (c : Counters) : { bp with counters := c }.put .urgent (eventReport s v) =
      { bp with counters := { c with txDrop := satAdd c.txDrop 1 } } := Port.put_of_dropped (p := { bp with counters := c }) h
  simp only [reportPut, h, first]
  split
  · rename_i told
    exact ⟨(or_mask_of_hasFlag told).symm, rfl, rfl, rfl⟩
  · split
    · rw [again]; exact ⟨rfl, rfl, rfl, rfl⟩
    · exact ⟨rfl, rfl, rfl, rfl⟩

theorem raise_of_set {f : Flag} {s : State} (h : hasFlag s.mgmt.flags f = true) : raise f s = s := by
  rcases raiseWhen_cases true f s with ⟨-, e⟩ | ⟨-, unset, -, -⟩ | ⟨-, unset, -, -⟩
  · exact e
  · rw [h] at unset; cases unset
  · rw [h] at unset; cases unset

theorem raise_of_silent {f : Flag} {s : State} (hf : hasFlag s.mgmt.flags f = false)
    (he : hasFlag s.mgmt.enables f = false) :
    raise f s = { s with mgmt := { s.mgmt with flags := s.mgmt.flags ||| f.mask } } := by
  simp [raise, raiseWhen, raised, hf, he]

theorem raise_of_enabled {f : Flag} {s : State} (hf : hasFlag s.mgmt.flags f = false)
    (he : hasFlag s.mgmt.enables f = true) :
    raise f s = { s with
      bp := (reportPut s s.bp (s.mgmt.flags ||| f.mask)).1
      mgmt := { s.mgmt with flags := (reportPut s s.bp (s.mgmt.flags ||| f.mask)).2 } } := by
  simp [raise, raiseWhen, raised, hf, he]

theorem eventReport_bytes (w : BitVec 22) (s : State) : eventReport s w =
    { frame := { ident := .standard (s.classifier.mb + 2), kind := .data, lengthCode := 8
                 data := [BitVec.ofNat 8 w.toNat, BitVec.ofNat 8 (w.toNat / 256), BitVec.ofNat 8 (w.toNat / 65536),
                   BitVec.ofNat 8 s.regulator.climate.code, BitVec.ofNat 8 s.supply.state.code,
                   BitVec.ofNat 8 s.mgmt.cause.code, 0, 0] }
      origin := .eventReport } := by
  have low : w.setWidth 8 = BitVec.ofNat 8 w.toNat := BitVec.eq_of_toNat_eq (by simp)
  have mid : (w >>> 8).setWidth 8 = BitVec.ofNat 8 (w.toNat / 256) :=
    BitVec.eq_of_toNat_eq (by simp [Nat.shiftRight_eq_div_pow])
  have high : (w >>> 16).setWidth 8 = BitVec.ofNat 8 (w.toNat / 65536) :=
    BitVec.eq_of_toNat_eq (by simp [Nat.shiftRight_eq_div_pow])
  rw [eventReport, composedFrame, low, mid, high]
  rfl

/-- Settles O19: a newly set and enabled flag is told by one put of a report, which BP takes or drops. -/
theorem raiseSetsAndReports : Obligations.RaiseSetsAndReports := by
  refine ⟨by decide, hasFlag_iff, fun w s => ?_, fun f s => ⟨raise_of_set, fun hf => ⟨hasFlag_raise f s, fun he =>
    raise_of_silent hf he, fun he taken => raiseWhen_of_reported hf he taken, fun he dropped => ?_⟩⟩⟩
  · rw [eventReport_bytes]
    cases s.regulator.climate <;> cases s.supply.state <;> cases s.mgmt.cause <;> rfl
  · obtain ⟨flags, urgent, control, bulk⟩ := reportPut_of_dropped (s := s) dropped (s.mgmt.flags ||| f.mask)
    rw [raise_of_enabled hf he]
    exact ⟨by rw [flags], urgent, control, bulk⟩

/-! ### Puts -/

theorem Port.outcome_of_busOff {p : Port} (h : p.err = .busOff) (c : TxClass) (o : Origin) :
    p.outcome c o = .dropped := if_pos h

theorem Port.queued_iff (p : Port) (c : TxClass) (o : Origin) :
    (o.coalesces && (p.queue c).any (fun q => q.origin == o)) = true ↔
      o.coalesces = true ∧ ∃ q ∈ p.queue c, q.origin = o := by
  simp [List.any_eq_true]

theorem Port.outcome_of_queued {p : Port} (hb : p.err ≠ .busOff) {c : TxClass} {o : Origin}
    (h : o.coalesces = true ∧ ∃ q ∈ p.queue c, q.origin = o) : p.outcome c o = .coalesced := by
  rw [Port.outcome, if_neg hb, if_pos ((p.queued_iff c o).2 h)]

theorem Port.outcome_of_unqueued {p : Port} (hb : p.err ≠ .busOff) {c : TxClass} {o : Origin}
    (h : ¬(o.coalesces = true ∧ ∃ q ∈ p.queue c, q.origin = o)) :
    p.outcome c o = if (p.queue c).length < c.capacity then .accepted else .dropped := by
  rw [Port.outcome, if_neg hb, if_neg fun e => h ((p.queued_iff c o).1 e)]

theorem Port.put_of_accepted {p : Port} {c : TxClass} {x : QueuedFrame} (h : p.outcome c x.origin = .accepted) :
    p.put c x = p.setQueue c (p.queue c ++ [x]) := by
  simp only [Port.put, h]

theorem Port.put_of_coalesced {p : Port} {c : TxClass} {x : QueuedFrame} (h : p.outcome c x.origin = .coalesced) :
    p.put c x = p.setQueue c ((p.queue c).map fun q => if q.origin = x.origin then x else q) := by
  simp only [Port.put, h]

theorem Port.queue_put_other (p : Port) (c : TxClass) (x : QueuedFrame) {d : TxClass} (h : d ≠ c) :
    (p.put c x).queue d = p.queue d := by
  rcases p.put_cases c x with ⟨-, -, -, e⟩ | ⟨-, -, e⟩ | ⟨-, e⟩ <;> rw [e]
  · rw [Port.queue_setQueue, if_neg h]
  · rw [Port.queue_setQueue, if_neg h]
  · cases d <;> rfl

theorem TxClass.capacity_eq (c : TxClass) : c.capacity = match c with
    | .urgent => 8
    | .control => 16
    | .bulk => 16 := by
  cases c <;> rfl

/-- Settles O20: the outcomes of a put, each with what it makes of the queue. -/
theorem putMeetsPort : Obligations.PutMeetsPort := by
  intro p c x
  refine ⟨fun hb => Port.outcome_of_busOff hb c _, fun hb hc hq => ?queued, fun hb hn => ?unqueued, Port.put_of_dropped,
    fun taken => ?counters, fun d hd => p.queue_put_other c x hd, p.put_offer c x, p.put_rx c x, p.put_err c x,
    p.put_tec c x⟩
  case queued =>
    have coalesced := Port.outcome_of_queued hb ⟨hc, hq⟩
    rw [Port.put_of_coalesced coalesced, Port.queue_setQueue, if_pos rfl]
    exact ⟨coalesced, List.length_map _, fun i q hi => by rw [List.getElem?_map, hi]; rfl⟩
  case unqueued =>
    have outcome := Port.outcome_of_unqueued hb hn
    rw [TxClass.capacity_eq] at outcome
    refine ⟨fun room => ?_, fun full => outcome.trans (if_neg (Nat.not_lt.2 full))⟩
    have accepted := outcome.trans (if_pos room)
    rw [Port.put_of_accepted accepted, Port.queue_setQueue, if_pos rfl]
    exact ⟨accepted, rfl⟩
  case counters =>
    rcases p.put_cases c x with ⟨-, -, -, e⟩ | ⟨-, -, e⟩ | ⟨dropped, -⟩
    · rw [e]; rfl
    · rw [e]; rfl
    · exact absurd dropped taken

/-! ### Attempts and their ends -/

/-- Settles O21: `choice` reads the queues in the order of R7. -/
theorem attemptOffersByPriority : Obligations.AttemptOffersByPriority := by
  refine fun p s => ⟨fun hr hb ho => ?_, rfl⟩
  have begun : beginAttempt p s = s.setPort p { s.port p with offer := (s.port p).choice } := by
    simp only [beginAttempt, ho]
  refine congrArg _ ((if_pos (onBus_of_running hr hb)).trans (begun.trans ?_))
  rfl

theorem ErrorState.ofCount_eq (n : Nat) :
    ErrorState.ofCount n = if n ≤ 127 then .active else if n ≤ 255 then .passive else .busOff := by
  have limits : Config.passiveThreshold = 128 ∧ Config.txErrorLimit = 256 := ⟨rfl, rfl⟩
  simp only [ErrorState.ofCount, limits.1, limits.2, Nat.lt_succ_iff]

theorem execTransmitComplete_of_offer {s : State} {p : PortId} {o : Offer} (h : (s.port p).offer = some o) :
    execTransmitComplete p s = .next (reportCompletion o.carried (s.setPort p ((s.port p).sent o.cls))) := by
  simp only [execTransmitComplete, h]

theorem execTransmitError_of_offer {s : State} {p : PortId} {o : Offer} (h : (s.port p).offer = some o) :
    execTransmitError p s = .next (transmitFails p s) := by
  simp only [execTransmitError, h]

/-- Settles O22: the completion takes the head off, and then depends on the origin alone. -/
theorem completionSendsHead : Obligations.CompletionSendsHead := by
  intro p o x rest s ho hq
  have sent : (s.port p).sent o.cls = { (s.port p).setQueue o.cls rest with
      offer := none
      tec := (s.port p).tec - 1
      err := if (s.port p).tec - 1 ≤ 127 then .active else if (s.port p).tec - 1 ≤ 255 then .passive else .busOff
      counters := { (s.port p).counters with txSent := min 65535 ((s.port p).counters.txSent + 1) } } := by
    rw [← ErrorState.ofCount_eq, Port.sent, hq]
    rfl
  have completed := execTransmitComplete_of_offer ho
  rw [sent] at completed
  refine ⟨fun origin => completed.trans (congrArg _ ?_), fun n origin => completed.trans (congrArg _ ?_)⟩
  · rcases origin with e | e | e <;> simp only [reportCompletion, e]
  · simp only [reportCompletion, origin]
    rfl

theorem switchOnBusOff_of_none {s : State} (h : s.mgmt.switch = none) : switchOnBusOff s = s := by
  simp only [switchOnBusOff, h]

theorem transmitFails_below {s : State} {p : PortId} (h : (s.port p).tec + 8 ≤ 255) :
    transmitFails p s = s.setPort p (s.port p).txFailed := if_pos (Nat.lt_succ_of_le h)

theorem transmitFails_fp {s : State} (h : 256 ≤ s.fp.tec + 8) :
    transmitFails .fp s = raise .busOff (s.setPort .fp (s.fp.fellOff (some (s.now + 100)))) :=
  if_neg (Nat.not_lt.2 h)

theorem transmitFails_bp {s : State} (h : 256 ≤ s.bp.tec + 8) :
    transmitFails .bp s = switchOnBusOff (raise .busOff (s.setPort .bp (s.bp.fellOff (some (s.now + 100))))) :=
  if_neg (Nat.not_lt.2 h)

/-- Settles O23: below the limit the port counts on, at it the port falls off, and BP's fall meets no switch. -/
theorem transmitErrorCountsToBusOff : Obligations.TransmitErrorCountsToBusOff := by
  refine fun p s => ⟨fun o ho => ⟨fun below => ?_, fun limit free => ?_⟩, fun d hd => ?_⟩
  · have state : ErrorState.ofCount ((s.port p).tec + 8) = if (s.port p).tec + 8 ≤ 127 then .active else .passive := by
      rw [ErrorState.ofCount_eq, if_pos below]
    refine (execTransmitError_of_offer ho).trans (congrArg _ ((transmitFails_below below).trans ?_))
    rw [← state]
    rfl
  · refine (execTransmitError_of_offer ho).trans (congrArg _ ?_)
    cases p with
    | fp => exact transmitFails_fp limit
    | bp => exact (transmitFails_bp limit).trans (switchOnBusOff_of_none (free.resolve_left nofun))
  · show onExpiry (s.port p).hold (rejoin p) s = _
    rw [hd]
    cases p <;> rfl

/-! ### The end of INIT -/

section
variable (m : Int)

/-- A mode value of 1 to 4 is one of the four modes, and any other is PARKED (R57). -/
theorem VehicleMode.ofValue_cases : (m = 1 ∧ ofValue m = .prepare) ∨ (m = 2 ∧ ofValue m = .service) ∨
    (m = 3 ∧ ofValue m = .layover) ∨ (m = 4 ∧ ofValue m = .wash) ∨ (¬(1 ≤ m ∧ m ≤ 4) ∧ ofValue m = .parked) := by
  by_cases h1 : m = 1
  · exact .inl ⟨h1, h1 ▸ rfl⟩
  · by_cases h2 : m = 2
    · exact .inr (.inl ⟨h2, h2 ▸ rfl⟩)
    · by_cases h3 : m = 3
      · exact .inr (.inr (.inl ⟨h3, h3 ▸ rfl⟩))
      · by_cases h4 : m = 4
        · exact .inr (.inr (.inr (.inl ⟨h4, h4 ▸ rfl⟩)))
        · exact .inr (.inr (.inr (.inr ⟨by omega, by simp [VehicleMode.ofValue, h1, h2, h3, h4]⟩)))

theorem VehicleMode.ofValue_code : ((ofValue m).code : Int) = if 1 ≤ m ∧ m ≤ 4 then m else 0 := by
  rcases ofValue_cases m with ⟨rfl, e⟩ | ⟨rfl, e⟩ | ⟨rfl, e⟩ | ⟨rfl, e⟩ | ⟨h, e⟩ <;> rw [e]
  iterate 4 rfl
  exact (if_neg h).symm

theorem VehicleMode.ofValue_climate : (ofValue m).climate = if 1 ≤ m ∧ m ≤ 4 then .active else .standby := by
  rcases ofValue_cases m with ⟨rfl, e⟩ | ⟨rfl, e⟩ | ⟨rfl, e⟩ | ⟨rfl, e⟩ | ⟨h, e⟩ <;> rw [e]
  iterate 4 rfl
  exact (if_neg h).symm

theorem profileFor_ofValue (t : Tables) (z kept : Nat) : profileFor t z (VehicleMode.ofValue m) kept =
    if 1 ≤ m ∧ m ≤ 4 then (zoneCfg t z).profileMap.getD (m - 1).toNat 0 else kept := by
  rcases VehicleMode.ofValue_cases m with ⟨rfl, e⟩ | ⟨rfl, e⟩ | ⟨rfl, e⟩ | ⟨rfl, e⟩ | ⟨h, e⟩ <;> rw [e]
  iterate 4 rfl
  exact (if_neg h).symm

/-- A zone's profile for a mode value, with the integral clamped where the profile changes (R62). -/
theorem selectProfile_ofValue (t : Tables) (z : Nat) (l : ZoneLive) :
    selectProfile t (VehicleMode.ofValue m) z l =
      (let p := if 1 ≤ m ∧ m ≤ 4 then (zoneCfg t z).profileMap.getD (m - 1).toNat 0 else l.profile
       let top := (profileCfg t z p).integralLimit
       { l with profile := p, integral := if p = l.profile then l.integral else max (-top) (min top l.integral) }) := by
  simp only [selectProfile, profileFor_ofValue]
  generalize (if 1 ≤ m ∧ m ≤ 4 then (zoneCfg t z).profileMap.getD (m - 1).toNat 0 else l.profile) = p
  by_cases same : p = l.profile
  · rw [if_pos same, if_pos same, same]
  · rw [if_neg same, if_neg same]
    rfl

end

/-- Settles O7: `endInit`, with each block's update written out. -/
theorem initEndStartsBlocks : Obligations.InitEndStartsBlocks := by
  intro s hs m c
  refine ⟨VehicleMode.ofValue m, VehicleMode.ofValue_code m, ?_⟩
  have zones : zoneAtInitEnd s (VehicleMode.ofValue m) = fun z l =>
      if (zoneCfg s.tables z).valid = true then
        let p := if 1 ≤ m ∧ m ≤ 4 then (zoneCfg s.tables z).profileMap.getD (m - 1).toNat 0 else l.profile
        let top := (profileCfg s.tables z p).integralLimit
        { l with
          profile := p
          integral := if p = l.profile then l.integral else max (-top) (min top l.integral)
          step := some (s.now + 1000) }
      else l := by
    funext z l
    rw [zoneAtInitEnd, selectProfile_ofValue]
    rfl
  have climate : (VehicleMode.ofValue m).climate = c := VehicleMode.ofValue_climate m
  have doors : doorAtInitEnd s c = fun d l =>
      if (doorCfg s.tables d).valid = true then
        { l with
          period := some (s.now + 1000)
          signalLost := if c = .active then some (s.now + 1000 * (globals s.tables).signalLostTime) else none }
      else l := by
    funext d l
    unfold doorAtInitEnd
    cases c <;> rfl
  have ended : exec .initEnd s = .next (endInit s) := by simp only [exec, execInitEnd, hs]
  rw [ended]
  unfold endInit
  simp only [show VehicleMode.ofValue (s.read (globals s.tables).modeSlot).1 = VehicleMode.ofValue m from rfl, zones,
    climate, doors]
  rfl

end Sys2Proof.Machine
end

section
/-! PROOFS. The frame classifier (chapter 2), the signal binder and the sample store (chapter 3): O24 to O27, O29 to O31. -/

namespace Sys2Proof.Machine

-- One theorem at a time: a thread for each of them at once would not fit into the checker's memory bound.
set_option Elab.async false

/-! ### The turn -/

theorem PortId.other_other (p : PortId) : p.other.other = p := by cases p <;> rfl

/-- A port with a frame is served when the other has none or was served last (R17). -/
theorem classifyChoice_eq {s : State} {p : PortId} {f : Frame} {rest : List Frame} (hf : (s.port p).rx = f :: rest)
    (turn : (s.port p.other).rx = [] ∨ s.classifier.lastServed = p.other) : classifyChoice s = some p := by
  rcases turn with idle | last
  · cases p <;> simp_all [classifyChoice, State.port, PortId.other]
  · have other : s.classifier.lastServed.other = p := by rw [last, PortId.other_other]
    cases p <;> simp only [State.port] at hf <;> unfold classifyChoice <;> rw [hf]
    · cases s.fp.rx <;> simp [other]
    · cases s.bp.rx <;> simp [other]

theorem execFrameClassify_eq {s : State} {p : PortId} {f : Frame} {rest : List Frame} (hr : s.phase = .running)
    (hf : (s.port p).rx = f :: rest) (turn : (s.port p.other).rx = [] ∨ s.classifier.lastServed = p.other) :
    exec .frameClassify s = .next (classify p f (takeFrame p rest s)) := by
  simp only [exec, execFrameClassify, hr, classifyChoice_eq hf turn, hf]

/-! ### What the classifier leaves alone -/

/-- Ports but for their FIFOs, hand-offs, captured frames and flags are all that differs. -/
def Classified (s t : State) : Prop :=
  t = { s with
    bp := t.bp
    fp := t.fp
    binder := t.binder
    overrides := { s.overrides with handOffs := t.overrides.handOffs }
    mgmt := { s.mgmt with captured := t.mgmt.captured, flags := t.mgmt.flags } } ∧
  t.bp.rx = s.bp.rx ∧ t.fp.rx = s.fp.rx

theorem Classified.refl (s : State) : Classified s s := ⟨rfl, rfl, rfl⟩

theorem Classified.trans {s t u : State} (h : Classified s t) (k : Classified t u) : Classified s u := by
  obtain ⟨e, bp, fp⟩ := h
  obtain ⟨e', bp', fp'⟩ := k
  exact ⟨by rw [e', e], bp'.trans bp, fp'.trans fp⟩

theorem Port.Puts.rx {p q : Port} (h : p.Puts q) : q.rx = p.rx := by
  induction h with
  | refl => rfl
  | andPut _ c x ih => rw [Port.put_rx, ih]

theorem raiseWhen_classified (c : Bool) (f : Flag) (s : State) : Classified s (raiseWhen c f s) :=
  ⟨rfl, (raiseWhen_puts c f s).rx, rfl⟩

theorem setPort_classified (s : State) (p : PortId) {x : Port} (h : x.rx = (s.port p).rx) :
    Classified s (s.setPort p x) := by
  cases p
  · exact ⟨rfl, h, rfl⟩
  · exact ⟨rfl, rfl, h⟩

theorem putFrame_classified (p : PortId) (c : TxClass) (x : QueuedFrame) (s : State) :
    Classified s (putFrame p c x s) :=
  (setPort_classified s p (Port.put_rx _ _ _)).trans (raiseWhen_classified _ _ _)

theorem dispose_classified (p : PortId) (f : Frame) (d : Disposition) (urgency : Nat) (s : State) :
    Classified s (dispose p f d urgency s) := by
  cases d with
  | forward => exact putFrame_classified _ _ _ _
  | drop => exact .refl s
  | yield =>
    unfold dispose
    dsimp only
    split
    · exact putFrame_classified _ _ _ _
    · exact .refl s

theorem countLengthShort_classified (p : PortId) (s : State) : Classified s (countLengthShort p s) := by
  refine (setPort_classified s p ?_).trans (raiseWhen_classified true .lengthShort _)
  rfl

theorem classifyEntry_classified (p : PortId) (f : Frame) (e : FrameEntry) (s : State) :
    Classified s (classifyEntry p f e s) := by
  refine Classified.trans ?_ (dispose_classified p f e.disposition e.urgency _)
  split
  · exact ⟨rfl, rfl, rfl⟩
  · exact countLengthShort_classified p s

theorem classify_classified (p : PortId) (f : Frame) (s : State) : Classified s (classify p f s) := by
  unfold classify
  split
  · split
    · exact ⟨rfl, rfl, rfl⟩
    · split
      · exact ⟨rfl, rfl, rfl⟩
      · split
        · exact classifyEntry_classified _ _ _ _
        · exact dispose_classified _ _ _ _ _
  · exact dispose_classified _ _ _ _ _

theorem Classified.port {s t : State} (h : Classified s t) (p : PortId) : (t.port p).rx = (s.port p).rx := by
  cases p
  · exact h.2.1
  · exact h.2.2

/-- Settles O24: the head is taken from the port whose turn it is, and the rest is the classifier's frame. -/
theorem classifierTakesTurns : Obligations.ClassifierTakesTurns := by
  intro p f rest s hr hf turn
  have dealt := classify_classified p f (takeFrame p rest s)
  refine ⟨_, execFrameClassify_eq hr hf turn, ?_, ?_, ?_⟩
  · rw [dealt.port p]
    exact congrArg Port.rx (s.port_setPort p _)
  · rw [dealt.port p.other]
    exact congrArg Port.rx (s.port_setPort_other p _)
  · generalize classify p f (takeFrame p rest s) = t at dealt
    obtain ⟨e, -, -⟩ := dealt
    rw [e]
    rfl

/-! ### Captures -/

/-- A frame of neither captured identifier leaves the captured frames. -/
theorem classify_captured {p : PortId} {f : Frame} {s : State}
    (h : ¬(p = .bp ∧ f.kind = .data ∧
      (f.ident = .standard s.classifier.mb ∨ f.ident = .standard (s.classifier.mb + 3)))) :
    (classify p f s).mgmt.captured = s.mgmt.captured := by
  have disposed (d : Disposition) (u : Nat) (t : State) : (dispose p f d u t).mgmt.captured = t.mgmt.captured := by
    cases d with
    | forward => rfl
    | drop => rfl
    | yield => unfold dispose; dsimp only; split <;> rfl
  unfold classify
  split
  · rename_i ident hi hk
    rw [hk, hi] at h
    split
    · rename_i request; exact absurd ⟨request.1, rfl, .inl (congrArg _ request.2)⟩ h
    · split
      · rename_i data; exact absurd ⟨data.1, rfl, .inr (congrArg _ data.2)⟩ h
      · split
        · refine (disposed _ _ _).trans ?_
          split <;> rfl
        · exact disposed _ _ _
  · exact disposed _ _ _

theorem mb_ne_mb_add (m : BitVec 11) : m + 3 ≠ m := by
  intro h
  have zero : (3 : BitVec 11) = 0 := by simp at h
  exact absurd zero (by decide)

/-- Settles O25: the first two tests of `classify`. -/
theorem classifierCaptures : Obligations.ClassifierCaptures := by
  intro p f rest s hr hf turn taken
  have exec_eq := execFrameClassify_eq hr hf turn
  refine ⟨fun hp hi hk => exec_eq.trans (congrArg _ ?_), fun hp hi hk => exec_eq.trans (congrArg _ ?_),
    fun h => ⟨_, exec_eq, classify_captured h⟩⟩
  · simp only [classify, hi, hk]
    exact if_pos ⟨hp, rfl⟩
  · simp only [classify, hi, hk]
    exact (if_neg fun e => mb_ne_mb_add _ e.2).trans (if_pos ⟨hp, rfl⟩)

/-! ### Entries and defaults -/

theorem lookup_eq_none {t : Tables} {p : PortId} {i : BitVec 11}
    (h : ∀ k, k < 128 → (frameEntry t k).matchesFrame p i = false) : lookup t p i = none := by
  refine List.find?_eq_none.2 fun k hk => ?_
  simp [h k (List.mem_range.1 hk)]

theorem lookup_eq_some {t : Tables} {p : PortId} {i : BitVec 11} {k : Nat} (hk : k < 128)
    (hm : (frameEntry t k).matchesFrame p i = true)
    (hfirst : ∀ j, j < k → (frameEntry t j).matchesFrame p i = false) : lookup t p i = some k := by
  refine List.find?_range_eq_some.2 ⟨hm, List.mem_range.2 hk, fun j hj => ?_⟩
  simp [hfirst j hj]

section
variable {p : PortId} {f : Frame} {i : BitVec 11} {s : State} (hk : f.kind = .data) (hi : f.ident = .standard i)
  (hn : ¬(p = .bp ∧ (i = s.classifier.mb ∨ i = s.classifier.mb + 3)))
include hk hi hn

theorem classify_of_matched {k : Nat} (h : lookup s.tables p i = some k) :
    classify p f s = classifyEntry p f (frameEntry s.tables k) s := by
  have request : ¬(p = .bp ∧ i = s.classifier.mb) := fun h => hn ⟨h.1, .inl h.2⟩
  have data : ¬(p = .bp ∧ i = s.classifier.mb + 3) := fun h => hn ⟨h.1, .inr h.2⟩
  simp only [classify, hi, hk, if_neg request, if_neg data, h]

theorem classify_of_unmatched (h : lookup s.tables p i = none) : classify p f s = classifyDefault p f s := by
  have request : ¬(p = .bp ∧ i = s.classifier.mb) := fun h => hn ⟨h.1, .inl h.2⟩
  have data : ¬(p = .bp ∧ i = s.classifier.mb + 3) := fun h => hn ⟨h.1, .inr h.2⟩
  simp only [classify, hi, hk, if_neg request, if_neg data, h]

end

theorem classify_default {p : PortId} {f : Frame} {s : State}
    (h : f.kind = .remote ∨ (∃ e, f.ident = .extended e) ∨
      ∃ i, f.ident = .standard i ∧ ¬(p = .bp ∧ (i = s.classifier.mb ∨ i = s.classifier.mb + 3)) ∧
        ∀ k, k < 128 → (frameEntry s.tables k).matchesFrame p i = false) :
    classify p f s = classifyDefault p f s := by
  rcases h with remote | ⟨e, extended⟩ | ⟨i, hi, uncaptured, unmatched⟩
  · cases hi : f.ident <;> simp only [classify, hi, remote]
  · simp only [classify, extended]
  · cases hk : f.kind with
    | remote => simp only [classify, hi, hk]
    | data => exact classify_of_unmatched hk hi uncaptured (lookup_eq_none unmatched)

/-- Settles O26: `classifyDefault` is the disposition of the port's defaults. -/
theorem classifierAppliesDefaults : Obligations.ClassifierAppliesDefaults := by
  intro p f rest s hr hf turn h taken forwarded
  have exec_eq : exec .frameClassify s =
      .next (dispose p f (defaultDisposition s.tables p) (defaultUrgency s.tables p) taken) :=
    (execFrameClassify_eq hr hf turn).trans (congrArg _ (classify_default h))
  refine ⟨fun hd => ?_, fun hd => ?_, fun hd => ?_⟩ <;> rw [exec_eq, hd]
  · rfl
  · rfl
  · refine congrArg _ ?_
    cases hc : s.regulator.climate <;>
      simp only [dispose, show taken.regulator.climate = s.regulator.climate from rfl, hc] <;> rfl

theorem raiseWhen_false (f : Flag) (s : State) : raiseWhen false f s = s := rfl

/-- A put sets TX_DROP exactly when it is dropped. -/
theorem putFrame_eq (q : PortId) (c : TxClass) (x : QueuedFrame) (u : State) :
    putFrame q c x u =
      if (u.port q).outcome c x.origin = .dropped then raise .txDrop (u.setPort q ((u.port q).put c x))
      else u.setPort q ((u.port q).put c x) := by
  unfold putFrame State.putOutcome
  cases (u.port q).outcome c x.origin <;> rfl

theorem append_ite_eq {α : Type} (c : Prop) [Decidable c] (xs ys : List α) :
    (if c then xs ++ ys else xs) = xs ++ if c then ys else [] := by
  split
  · rfl
  · exact (List.append_nil xs).symm

theorem handOff_eq (p : PortId) (f : Frame) (e : FrameEntry) (s : State) :
    handOff p f e s = { s with
      binder := s.binder ++ (if e.consume = true ∧ e.bindingCount ≠ 0 then
        [{ data := f.data, port := p, first := e.firstBinding, count := e.bindingCount }] else [])
      overrides := { s.overrides with handOffs := s.overrides.handOffs ++ (if e.desk = true then [f.data] else []) } } := by
  simp only [handOff, append_ite_eq, Bool.and_eq_true, bne_iff_ne]

theorem dispose_eq (p : PortId) (f : Frame) (d : Disposition) (urgency : Nat) (s : State) :
    dispose p f d urgency s = if d = .forward ∨ (d = .yield ∧ s.regulator.climate = .standby) then
      forwardFrame p f urgency s else s := by
  cases d with
  | forward => rfl
  | drop => rfl
  | yield => cases hc : s.regulator.climate <;> simp only [dispose, hc] <;> rfl

/-- Settles O27: hand-offs or LENGTH_SHORT by the first matching entry, then its disposition. -/
theorem classifierAppliesEntry : Obligations.ClassifierAppliesEntry := by
  refine ⟨putFrame_eq, ?_⟩
  intro p f rest i k s hr hf turn hk hi hn hk128 hm hfirst e cls passes taken handed short dealt
  rw [execFrameClassify_eq hr hf turn]
  refine congrArg _ ?_
  have entry : classify p f taken = classifyEntry p f e taken :=
    classify_of_matched (s := taken) hk hi hn (lookup_eq_some hk128 hm hfirst)
  have counted : countLengthShort p taken = short := by
    have counters : (taken.port p).counters = (s.port p).counters := by cases p <;> rfl
    simp only [countLengthShort, counters]
    rfl
  have staged : (if e.minimumLength ≤ f.data.length then handOff p f e taken else countLengthShort p taken) = dealt := by
    rw [handOff_eq, counted]
    rfl
  have keeps : dealt.regulator = s.regulator ∧ dealt.tables = s.tables := by
    rw [show dealt = if e.minimumLength ≤ f.data.length then handed else short from rfl]
    split <;> exact ⟨rfl, rfl⟩
  show classify p f taken = _
  rw [entry, classifyEntry, staged, dispose_eq, keeps.1, forwardFrame, keeps.2]

/-! ### Binder -/

theorem Binding.fits_iff (b : Binding) (data : List Byte) :
    b.fits data = true ↔ ∀ i ∈ b.fieldBits, i < 64 ∧ i / 8 < data.length := by
  simp only [Binding.fits, List.all_eq_true, decide_eq_true_eq, and_comm]

/-- Reading digits from the most significant one on weighs each by its place. -/
theorem foldl_binary (f : Nat → Nat) (xs : List Nat) (a : Nat) :
    xs.foldl (fun n i => 2 * n + f i) a = a * 2 ^ xs.length +
      ((List.range xs.length).map fun j => f (xs.getD j 0) * 2 ^ (xs.length - 1 - j)).sum := by
  induction xs generalizing a with
  | nil => simp
  | cons x xs ih =>
    have places : ((List.range xs.length).map fun j => f (xs.getD j 0) * 2 ^ (xs.length - 1 - j)).sum =
        ((List.range xs.length).map fun j => f (xs.getD j 0) * 2 ^ (xs.length - (j + 1))).sum := by
      refine congrArg List.sum (List.map_congr_left fun j _ => ?_)
      rw [show xs.length - 1 - j = xs.length - (j + 1) by omega]
    rw [List.foldl_cons, ih, List.length_cons, List.range_succ_eq_map, List.map_cons, List.map_map, List.sum_cons, places]
    simp only [Function.comp_def, List.getD_cons_succ, List.getD_cons_zero, Nat.add_sub_cancel, Nat.sub_zero,
      Nat.succ_eq_add_one]
    rw [Nat.pow_succ]
    have doubled : a * (2 ^ xs.length * 2) = 2 * a * 2 ^ xs.length := by
      rw [Nat.mul_comm (2 ^ xs.length), ← Nat.mul_assoc, Nat.mul_comm a]
    rw [doubled, Nat.add_mul, Nat.add_assoc]

theorem Binding.unsignedField_eq (b : Binding) (data : List Byte) :
    b.unsignedField data = ((List.range b.length).map fun j =>
      (data.getD (b.fieldBits.getD j 0 / 8) 0).toNat / 2 ^ (b.fieldBits.getD j 0 % 8) % 2 * 2 ^ (b.length - 1 - j)).sum := by
  rw [Binding.unsignedField, foldl_binary, b.length_fieldBits, Nat.zero_mul, Nat.zero_add]
  rfl

theorem Binding.value_eq (b : Binding) (data : List Byte) :
    b.value data =
      (let n : Int := b.unsignedField data
       let raw : Int := if b.signed = true ∧ 2 ^ (b.length - 1) ≤ n then n - 2 ^ b.length else n
       max (-32768) (min 32767 (raw * b.scale / 2 ^ b.shift + b.offset))) := by
  have cast : (2 ^ (b.length - 1) ≤ b.unsignedField data) ↔ ((2 : Int) ^ (b.length - 1) ≤ (b.unsignedField data : Int)) := by
    exact_mod_cast Iff.rfl
  simp only [Binding.value, Binding.rawValue, Bool.and_eq_true, decide_eq_true_eq, cast]
  rfl

/-- A relation that holds along every binding holds along a run. -/
theorem foldl_relates {α : Type} {R : State → State → Prop} (hr : ∀ s, R s s) (ht : ∀ s t u, R s t → R t u → R s u)
    {f : State → α → State} (hf : ∀ s a, R s (f s a)) (as : List α) (s : State) : R s (as.foldl f s) := by
  induction as generalizing s with
  | nil => exact hr s
  | cons a as ih => exact ht _ _ _ (hf s a) (ih _)

/-- A door but for its waiting notices. -/
def DoorLive.unnotified (l : DoorLive) : DoorLive := { l with notices := [] }

/-- Ports, slots, notices, flags and the count of free choices are all that differs. -/
def Bound (s t : State) : Prop :=
  t = { s with
    freeIndex := t.freeIndex
    bp := t.bp
    fp := t.fp
    slots := t.slots
    regulator := { s.regulator with notices := t.regulator.notices }
    doors := { s.doors with doors := t.doors.doors }
    supply := { s.supply with notices := t.supply.notices }
    mgmt := { s.mgmt with flags := t.mgmt.flags } } ∧
  t.doors.doors.map DoorLive.unnotified = s.doors.doors.map DoorLive.unnotified

theorem Bound.refl (s : State) : Bound s s := ⟨rfl, rfl⟩

theorem Bound.trans {s t u : State} (h : Bound s t) (k : Bound t u) : Bound s u := by
  obtain ⟨e, doors⟩ := h
  obtain ⟨e', doors'⟩ := k
  exact ⟨by rw [e', e], doors'.trans doors⟩

theorem sendNotices_bound (i : Nat) (v : Int) (c : Bool) (s : State) : Bound s (sendNotices i v c s) := by
  refine ⟨rfl, ?_⟩
  refine List.ext_getElem? fun d => ?_
  simp only [sendNotices, List.getElem?_map, List.getElem?_mapIdx]
  cases s.doors.doors[d]? <;> rfl

theorem writeSlot_bound (i : Nat) (v : Int) (s : State) : Bound s (writeSlot i v s) := by
  have slot (x : SlotLive) : Bound s (s.setSlot i x) := ⟨rfl, rfl⟩
  unfold writeSlot
  split
  · exact (slot _).trans (sendNotices_bound _ _ _ _)
  · exact ⟨rfl, rfl⟩

theorem runBinding_bound (h : HandOff) (s : State) (k : Nat) : Bound s (runBinding h s k) := by
  have counted : Bound s (countLengthShort h.port s) := by
    cases hp : h.port <;> exact ⟨rfl, rfl⟩
  unfold runBinding
  dsimp only
  split
  · exact .refl s
  · split
    · exact writeSlot_bound _ _ _
    · exact counted

/-- Settles O29: a run is a fold of single bindings, each of which stays within the binder's frame. -/
theorem binderRunsHandOff : Obligations.BinderRunsHandOff := by
  refine ⟨fun b data => ⟨b.fits_iff data, b.unsignedField_eq data⟩, ?_⟩
  intro h rest s hs run
  have exec_eq : exec .binderRun s = .next (runBindings h (s.setBinder rest)) := by
    simp only [exec, execBinderRun, hs]
  have same : runBinding h = run := by
    funext u k
    simp only [runBinding, Binding.value_eq]
    rfl
  obtain ⟨e, doors⟩ := foldl_relates Bound.refl (fun _ _ _ => Bound.trans) (runBinding_bound h)
    ((List.range h.count).map (h.first + ·)) (s.setBinder rest)
  refine ⟨_, exec_eq, ?_, e, doors⟩
  rw [runBindings, same]
  rfl

/-! ### Writes -/

theorem orderNotices_cases {α : Type} (swapped : Bool) (xs ys : List α) :
    orderNotices swapped xs ys = xs ++ ys ∨ orderNotices swapped xs ys = ys ++ xs := by
  unfold orderNotices
  split
  · exact .inl rfl
  · exact .inl (List.append_nil _).symm
  · split
    · exact .inr rfl
    · exact .inl rfl

theorem SlotCfg.plausible_iff (c : SlotCfg) (v : Int) :
    c.plausible v = true ↔ c.min ≤ v ∧ v ≤ c.max ∧ c.kind.range.1 ≤ v ∧ v ≤ c.kind.range.2 := by
  simp only [SlotCfg.plausible, decide_eq_true_eq]

theorem slotChanges_iff (c : SlotCfg) (l : SlotLive) (v : Int) :
    slotChanges c l v = true ↔ c.kind = .state ∧ l.reference ≠ some v := by
  simp [slotChanges]

/-- Settles O30: the two writes of R42 and R43, with what they send. -/
theorem writeMovesSlot : Obligations.WriteMovesSlot := by
  intro i v s hi g c l change ok t
  have changes : slotChanges c l v = decide change := by
    rw [Bool.eq_iff_iff, decide_eq_true_eq]
    exact slotChanges_iff c l v
  refine ⟨fun plausible => ?_, fun implausible => ?_⟩
  · have written : t = sendNotices i v (decide change) (s.setSlot i (l.plausibleWrite c v s.now)) := by
      rw [← changes]
      exact if_pos ((c.plausible_iff v).2 plausible)
    have slot : l.plausibleWrite c v s.now =
        { state := .fresh, lastWritten := some v, lastGood := some v
          timer := if c.timeout = 0 then none else some (s.now + 10 * c.timeout)
          reference := if change then some v else l.reference
          implausible := l.implausible } := by
      simp only [SlotLive.plausibleWrite, changes, decide_eq_true_eq]
    have mode : (if (globals s.tables).modeSlot = some i ∧ decide change = true then
          [({ slot := i, value := v, change := decide change } : ModeNotice)] else []) =
        if g.modeSlot = some i ∧ change then [{ slot := i, value := v, change := true }] else [] := by
      by_cases h : change <;> simp [h, g]
    intro pole line
    refine ⟨?exact, ?supply, ?length, ?doors⟩
    case exact =>
      rw [written, slot, sendNotices, ← mode]
      rfl
    case supply =>
      rw [written]
      have notices : (sendNotices i v (decide change) (s.setSlot i (l.plausibleWrite c v s.now))).supply.notices =
          s.supply.notices ++ orderNotices (Config.noticesSwapped s.freeIndex 0) pole line := by
        simp only [sendNotices, supplyNotices, decide_eq_true_eq]
        rfl
      rw [notices]
      exact (orderNotices_cases _ pole line).imp (congrArg _) (congrArg _)
    case length =>
      rw [written]
      exact List.length_mapIdx
    case doors =>
      intro d x hx r opening release
      have notices : doorNotices (s.setSlot i (l.plausibleWrite c v s.now)) d i v (decide change) =
          orderNotices (Config.noticesSwapped s.freeIndex (1 + d)) opening release := by
        have shape : doorNotices (s.setSlot i (l.plausibleWrite c v s.now)) d i v (decide change) =
            if r.valid = true then orderNotices (Config.noticesSwapped s.freeIndex (1 + d))
              (if r.openSlot = some i then [.doorOpen i v (decide change)] else [])
              (if r.releaseSlot = some i ∧ decide change = true then [.release i v] else []) else [] := rfl
        rw [shape]
        by_cases hv : r.valid = true
        · simp only [opening, release, hv, true_and, decide_eq_true_eq, if_true]
        · have none : opening = [] ∧ release = [] := ⟨if_neg fun h => hv h.1, if_neg fun h => hv h.1⟩
          rw [if_neg hv, none.1, none.2]
          rfl
      have door : t.doors.doors[d]? = some { x with
          notices := x.notices ++ orderNotices (Config.noticesSwapped s.freeIndex (1 + d)) opening release } := by
        rw [written, ← notices]
        simp only [sendNotices, List.getElem?_mapIdx]
        rw [show (s.setSlot i (l.plausibleWrite c v s.now)).doors.doors[d]? = some x from hx]
        rfl
      rw [door]
      exact (orderNotices_cases _ opening release).imp (fun e => by rw [e]) fun e => by rw [e]
  · have written : t = writeImplausible i v s := if_neg fun e => implausible ((c.plausible_iff v).1 e)
    intro moved
    have slot : moved.slot i = l.implausibleWrite v := s.slot_setSlot i _ hi
    rw [written]
    show leaveNotice _ i moved = _
    simp only [leaveNotice, slot, Bool.and_eq_true, beq_iff_eq]
    rfl

/-- Settles O31: the expired slot, read back where its notice is sent. -/
theorem stalenessExpires : Obligations.StalenessExpires := by
  intro i d s hlen htimer moved
  refine ⟨?_, hasFlag_raise _ _⟩
  have slot : moved.slot i = (s.slot i).expired := (s.advanceTo d).slot_setSlot i _ (by simp [hlen])
  have exec_eq : exec (.stalenessExpiry i) s = .next (leaveNotice true i moved) := by
    show onExpiry (s.slot i).timer (staleSlot i) s = _
    rw [htimer]
    rfl
  rw [exec_eq]
  refine congrArg _ ?_
  simp only [leaveNotice, slot, Bool.true_and, beq_iff_eq]
  rfl

end Sys2Proof.Machine
end

section
/-! PROOFS. The zone regulator (chapter 4): the climate state (O33) and the outdoor curve (O34). -/

namespace Sys2Proof.Machine

-- One theorem at a time: a thread for each of them at once would not fit into the checker's memory bound.
set_option Elab.async false

/-! ### The climate state -/

/-- What a mode value makes of a zone, the clearing at a change to STANDBY and the profile's selection in one (R59, R62). -/
theorem zoneAtMode_eq (t : Tables) (changed : Bool) (m : Int) (z : Nat) (l : ZoneLive) :
    selectProfile t (VehicleMode.ofValue m) z
        (if changed && (VehicleMode.ofValue m).climate == .standby then l.toStandby else l) =
      (let kept := if changed && (VehicleMode.ofValue m).climate == .standby then l.toStandby else l
       let p := if 1 ≤ m ∧ m ≤ 4 then (zoneCfg t z).profileMap.getD (m - 1).toNat 0 else l.profile
       let top := (profileCfg t z p).integralLimit
       { kept with
         profile := p, integral := if p = l.profile then kept.integral else max (-top) (min top kept.integral) }) := by
  rw [selectProfile_ofValue]
  cases changed && (VehicleMode.ofValue m).climate == .standby <;> rfl

/-- Whether the derivation clears the valid zones (R59). -/
theorem clears_iff (c now : Climate) : (c != now && c == .standby) = true ↔ c = .standby ∧ now = .active := by
  cases c <;> cases now <;> decide

/-- Settles O33: `deriveClimate`, with the zones written out and a change of climate told apart from none. -/
theorem modeNoticeDerivesClimate : Obligations.ModeNoticeDerivesClimate := by
  constructor
  · intro m s c
    refine ⟨VehicleMode.ofValue m, VehicleMode.ofValue_code m, ?_⟩
    intro derived
    have climate : (VehicleMode.ofValue m).climate = c := VehicleMode.ofValue_climate m
    have step : s.setRegulator { s.regulator with
        climate := (VehicleMode.ofValue m).climate
        mode := VehicleMode.ofValue m
        zones := zonesAtMode s.tables ((VehicleMode.ofValue m).climate != s.regulator.climate) (VehicleMode.ofValue m)
          s.regulator.zones } = derived := by
      unfold zonesAtMode
      simp only [zoneAtMode_eq]
      simp only [climate, clears_iff]
      rfl
    unfold deriveClimate
    dsimp only
    rw [step, climate]
    constructor
    · intro same
      rw [same, bne_self_eq_false, raiseWhen_false]
      unfold sendClimate
      simp only [Bool.false_eq_true, ↓reduceIte, List.append_nil]
    · intro other
      rw [bne_iff_ne.mpr other]
      rfl
  · intro n rest s hn
    simp only [exec, execVehicleModeNotice, hn]
    rfl

/-! ### The outdoor curve -/

section
variable (t : Tables) (o : Int)

/-- Right of its points the curve holds its last value. -/
theorem curveFrom_last (i n : Nat) (right : ∀ k, k < n → curveX t (i + k + 1) ≤ o) :
    curveFrom t o i n = curveY t (i + n) := by
  induction n generalizing i with
  | zero => rfl
  | succ n ih =>
    have first : ¬ o < curveX t (i + 1) := Int.not_lt.mpr (right 0 (by omega))
    have later := ih (i + 1) fun k hk => by
      rw [show i + 1 + k + 1 = i + (k + 1) + 1 by omega]
      exact right (k + 1) (by omega)
    rw [curveFrom, if_neg first, later, show i + 1 + n = i + (n + 1) by omega]

/-- On segment i + k, where the points up to it lie left of o and the next one right of it, the curve interpolates. -/
theorem curveFrom_segment (i n k : Nat) (hk : k < n) (left : ∀ j, j < k → curveX t (i + j + 1) ≤ o)
    (right : o < curveX t (i + k + 1)) :
    curveFrom t o i n = curveY t (i + k)
      + (o - curveX t (i + k)) * (curveY t (i + k + 1) - curveY t (i + k)) / (curveX t (i + k + 1) - curveX t (i + k)) := by
  induction n generalizing i k with
  | zero => omega
  | succ n ih =>
    cases k with
    | zero =>
      rw [curveFrom, if_pos right]
      rfl
    | succ k =>
      have first : ¬ o < curveX t (i + 1) := Int.not_lt.mpr (left 0 (by omega))
      have shift : ∀ j, i + 1 + j = i + (j + 1) := fun j => by omega
      have later := ih (i + 1) k (by omega) (fun j hj => by rw [shift]; exact left (j + 1) (by omega))
        (by rw [shift]; exact right)
      rw [curveFrom, if_neg first, later, shift]

theorem curveY_bounds (i : Nat) : -50 ≤ curveY t i ∧ curveY t i ≤ 50 := by
  unfold curveY
  exact clampInt_bounds (by omega) _

end

/-- A floored interpolation stays between any bounds of its two ends. -/
theorem interpolate_bounds {lo hi a b p w : Int} (ha : lo ≤ a ∧ a ≤ hi) (hb : lo ≤ b ∧ b ≤ hi) (hp : 0 ≤ p) (hw : p < w) :
    lo ≤ a + p * (b - a) / w ∧ a + p * (b - a) / w ≤ hi := by
  have hpos : 0 < w := by omega
  obtain ⟨ha, ha'⟩ := ha
  obtain ⟨hb, hb'⟩ := hb
  constructor
  · have : lo - a ≤ p * (b - a) / w := by
      rw [Int.le_ediv_iff_mul_le hpos]
      calc (lo - a) * w ≤ (lo - a) * p := Int.mul_le_mul_of_nonpos_left (by omega) (by omega)
        _ = p * (lo - a) := Int.mul_comm _ _
        _ ≤ p * (b - a) := Int.mul_le_mul_of_nonneg_left (by omega) hp
    omega
  · have : p * (b - a) / w ≤ hi - a := by
      apply Int.le_of_lt_add_one
      rw [Int.ediv_lt_iff_lt_mul hpos]
      calc p * (b - a) ≤ p * (hi - a) := Int.mul_le_mul_of_nonneg_left (by omega) hp
        _ ≤ w * (hi - a) := Int.mul_le_mul_of_nonneg_right (by omega) (by omega)
        _ < w * (hi - a) + w := by omega
        _ = (hi - a + 1) * w := by rw [Int.mul_comm w, Int.add_mul, Int.one_mul]
    omega

/-- A value between the first and the last of ascending points lies on one segment. -/
theorem segment_of {x : Nat → Int} {o : Int} (n : Nat) (left : x 0 ≤ o) (right : o < x n) :
    ∃ i, i < n ∧ x i ≤ o ∧ o < x (i + 1) := by
  induction n with
  | zero => omega
  | succ n ih =>
    by_cases h : o < x n
    · obtain ⟨i, hi, onSegment⟩ := ih h
      exact ⟨i, by omega, onSegment⟩
    · exact ⟨n, by omega, by omega, right⟩

/-- Ascending points are ascending over any distance. -/
theorem ascending_le {x : Nat → Int} {n : Nat} (asc : ∀ i, i < n → x i < x (i + 1)) {i j : Nat} (hij : i ≤ j) (hj : j ≤ n) :
    x i ≤ x j := by
  obtain ⟨d, rfl⟩ := Nat.exists_eq_add_of_le hij
  induction d with
  | zero => exact Int.le_refl _
  | succ d ih => exact Int.le_trans (ih (by omega) (by omega)) (Int.le_of_lt (asc (i + d) (by omega)))

/-- Settles O34: left of the points, right of them, or on a segment; the bounds follow from those of the points. -/
theorem curveInterpolates : Obligations.CurveInterpolates := by
  intro t o asc
  have before : o < curveX t 0 → curveValue t o = curveY t 0 := fun h => if_pos h
  have after : curveX t 7 ≤ o → curveValue t o = curveY t 7 := by
    intro h
    have inside : ¬ o < curveX t 0 := Int.not_lt.mpr (Int.le_trans (ascending_le asc (by omega) (Nat.le_refl 7)) h)
    rw [curveValue, if_neg inside, curveFrom_last]
    · intro k hk
      exact Int.le_trans (ascending_le asc (by omega) (Nat.le_refl 7)) h
  have on : ∀ i, i < 7 → curveX t i ≤ o → o < curveX t (i + 1) → curveValue t o = curveY t i
      + (o - curveX t i) * (curveY t (i + 1) - curveY t i) / (curveX t (i + 1) - curveX t i) := by
    intro i hi left right
    have inside : ¬ o < curveX t 0 := Int.not_lt.mpr (Int.le_trans (ascending_le asc (by omega) (by omega)) left)
    rw [curveValue, if_neg inside, curveFrom_segment t o 0 7 i hi, Nat.zero_add]
    · intro j hj
      exact Int.le_trans (ascending_le asc (by omega) (by omega)) left
    · rw [Nat.zero_add]
      exact right
  refine ⟨before, after, on, ?_⟩
  by_cases h0 : o < curveX t 0
  · rw [before h0]
    exact curveY_bounds t 0
  · by_cases h7 : curveX t 7 ≤ o
    · rw [after h7]
      exact curveY_bounds t 7
    · obtain ⟨i, hi, left, right⟩ := segment_of (x := curveX t) 7 (Int.not_lt.mp h0) (Int.not_le.mp h7)
      rw [on i hi left right]
      exact interpolate_bounds (curveY_bounds t i) (curveY_bounds t (i + 1)) (by omega) (by omega)

end Sys2Proof.Machine
end

section
/-! PROOFS. The zone step (chapter 4): each of its stages said once, then O35 and O36. -/

namespace Sys2Proof.Machine

-- One theorem at a time: a thread for each of them at once would not fit into the checker's memory bound.
set_option Elab.async false

/-! ### The PI law -/

/-- The six conditions that freeze the integral (R69). -/
theorem integralFrozen_iff (l : ZoneLive) (share : ZoneShare) (supply : SupplyState) (mode : OverrideMode) (inc : Int) :
    integralFrozen l share supply mode inc = true ↔
      (1000 < l.rawDemand ∧ 0 < inc) ∨ (l.rawDemand < -1000 ∧ inc < 0) ∨
      (share.limited = true ∧ ((0 < l.demand ∧ 0 < inc) ∨ (l.demand < 0 ∧ inc < 0))) ∨
      supply = .breaking ∨ supply = .held ∨ supply = .resuming ∨ (inc < 0 ∧ l.hold.isSome = true) ∨
      mode = .ventOnly := by
  simp only [integralFrozen, Bool.or_eq_true, Bool.and_eq_true, decide_eq_true_eq, beq_iff_eq, or_assoc]

theorem enabledDemand_eq (p : Profile) (d : Int) :
    enabledDemand p d = if (0 < d ∧ p.heatEnable = false) ∨ (d < 0 ∧ p.coolEnable = false) then 0 else d := by
  unfold enabledDemand
  by_cases heat : 0 < d ∧ p.heatEnable = false
  · rw [if_pos heat, if_pos (.inl heat)]
  · rw [if_neg heat]
    simp only [heat, false_or]

/-- The override mode of a zone's class (R73). -/
theorem zoneMode_eq (s : State) (z : Nat) :
    zoneMode s z = if (zoneCfg s.tables z).cls = .cab then s.override.cabMode else s.override.saloonMode := by
  unfold zoneMode
  cases (zoneCfg s.tables z).cls <;> rfl

theorem zoneFeedforward_eq (s : State) (z : Nat) :
    zoneFeedforward s z = min 400 (((List.range 6).map fun k =>
      if (doorCfg s.tables k).valid = true ∧ (doorCfg s.tables k).primaryZone = z then (s.door k).ff else 0).sum) := by
  simp only [zoneFeedforward, Bool.and_eq_true, beq_iff_eq]

/-! ### Setpoint and temperature -/

theorem knobTerm_eq (r : Int × Quality) : knobTerm r = if r.2 = .none then 0 else max (-30) (min 30 r.1) := by
  obtain ⟨v, q⟩ := r
  cases q <;> rfl

theorem zoneSetpoint_eq (s : State) (z : Nat) (p : Profile) :
    zoneSetpoint s z p =
      (let c := zoneCfg s.tables z
       let terms := p.base + curveValue s.tables (s.read (globals s.tables).outdoorSlot).1 * p.curveGain / 16
       max 50 (min 300 (if c.cls = .cab then
           terms + s.override.cabOffset +
             (if (s.read c.knob).2 = .none then 0 else max (-30) (min 30 (s.read c.knob).1))
         else terms + s.override.saloonOffset))) := by
  simp only [zoneSetpoint, knobTerm_eq]
  cases (zoneCfg s.tables z).cls <;> rfl

theorem zoneSetpoint_bounds (s : State) (z : Nat) (p : Profile) : 50 ≤ zoneSetpoint s z p ∧ zoneSetpoint s z p ≤ 300 :=
  clampInt_bounds (by decide) _

/-- The sensors of zone z that are in use (R66). -/
def sensorsInUse (s : State) (z : Nat) : List (Option Nat × Nat) :=
  (zoneCfg s.tables z).sensors.filter fun e => decide (e.2 ≠ 0)

/-- Whether a sensor reads with a quality. -/
def readsWith (s : State) (q : Quality) (e : Option Nat × Nat) : Bool := decide ((s.read e.1).2 = q)

/-- The best quality among the sensors in use. -/
def sensorTier (s : State) (z : Nat) : Quality :=
  if (sensorsInUse s z).any (readsWith s .good) = true then .good
  else if (sensorsInUse s z).any (readsWith s .degraded) = true then .degraded else .none

theorem sensorReadings_eq (s : State) (z : Nat) :
    sensorReadings s z = (sensorsInUse s z).map fun e => (e.2, s.read e.1) := by
  unfold sensorReadings sensorsInUse
  congr 1
  exact List.filter_congr fun e _ => by rw [Bool.eq_iff_iff, bne_iff_ne, decide_eq_true_eq]

theorem zoneTemperature_tier (s : State) (z : Nat) : (zoneTemperature s z).1 = sensorTier s z := by
  show bestQuality (sensorReadings s z) = _
  rw [sensorReadings_eq]
  simp only [bestQuality, List.any_map]
  rfl

/-- Where sensors are in use, one of them reads with the tier, and it has a weight. -/
theorem bestSensors_weight {s : State} {z : Nat} (h : sensorsInUse s z ≠ []) :
    (((sensorsInUse s z).filter (readsWith s (sensorTier s z))).map fun e => e.2).sum ≠ 0 := by
  have best : ∃ e ∈ sensorsInUse s z, readsWith s (sensorTier s z) e = true := by
    unfold sensorTier
    by_cases good : (sensorsInUse s z).any (readsWith s .good) = true
    · rw [if_pos good]
      exact List.any_eq_true.mp good
    · rw [if_neg good]
      by_cases degraded : (sensorsInUse s z).any (readsWith s .degraded) = true
      · rw [if_pos degraded]
        exact List.any_eq_true.mp degraded
      · rw [if_neg degraded]
        obtain ⟨e, he⟩ := List.exists_mem_of_ne_nil _ h
        refine ⟨e, he, ?_⟩
        have notGood : readsWith s .good e ≠ true := fun k => good (List.any_eq_true.mpr ⟨e, he, k⟩)
        have notDegraded : readsWith s .degraded e ≠ true := fun k => degraded (List.any_eq_true.mpr ⟨e, he, k⟩)
        unfold readsWith at *
        cases hq : (s.read e.1).2 <;> simp_all
  obtain ⟨e, he, hq⟩ := best
  have weight : e.2 ≠ 0 := of_decide_eq_true (List.mem_filter.mp he).2
  intro zero
  exact weight (List.sum_eq_zero_iff_forall_eq_nat.mp zero e.2 (List.mem_map.mpr ⟨e, List.mem_filter.mpr ⟨he, hq⟩, rfl⟩))

/-- The measured temperature: the weighted, floored, bounded mean over the sensors of the best quality (R66). -/
theorem zoneTemperature_value (s : State) (z : Nat) :
    (zoneTemperature s z).2 =
      (let best := (sensorsInUse s z).filter (readsWith s (sensorTier s z))
       let weight : Nat := (best.map fun e => e.2).sum
       if sensorsInUse s z = [] then 0
       else max (-400) (min 850 ((best.map fun e => (e.2 : Int) * (s.read e.1).1).sum / weight))) := by
  have readings : (sensorReadings s z).filter (fun r => r.2.2 == (zoneTemperature s z).1) =
      ((sensorsInUse s z).filter (readsWith s (sensorTier s z))).map fun e => (e.2, s.read e.1) := by
    rw [zoneTemperature_tier, sensorReadings_eq, List.filter_map]
    rfl
  show weightedMean ((sensorReadings s z).filter fun r => r.2.2 == (zoneTemperature s z).1) = _
  rw [readings]
  unfold weightedMean
  simp only [List.map_map, Function.comp_def]
  by_cases none : sensorsInUse s z = []
  · rw [if_pos none, none]
    rfl
  · rw [if_neg none, if_neg (bestSensors_weight none)]
    rfl

/-! ### Blower, damper and requests -/

theorem screenImposes_iff (s : State) (k : Nat) : screenImposes s k = true ↔
    (screenCfg s.tables k).valid = true ∧ ((s.screen k).condition = .fogging ∨ (s.screen k).condition = .ice) := by
  simp only [screenImposes, Bool.and_eq_true, Bool.or_eq_true, beq_iff_eq]

theorem screenBlowerFloor_eq (s : State) :
    screenBlowerFloor s = max (if screenImposes s 0 = true then (screenCfg s.tables 0).blowerFloor else 0)
      (if screenImposes s 1 = true then (screenCfg s.tables 1).blowerFloor else 0) := by
  simp only [screenBlowerFloor, show List.range 2 = [0, 1] from rfl, List.foldl_cons, List.foldl_nil]
  split <;> split <;> simp

theorem zoneBlower_eq (s : State) (z : Nat) (mode : OverrideMode) (demand : Int) :
    zoneBlower s z mode demand =
      (let c := zoneCfg s.tables z
       min 1000 (max
        (max (if mode = .off then 0
          else c.blowerMin + (max c.blowerMin c.blowerMax - c.blowerMin) * demand.natAbs / 1000) s.override.blowerFloor)
        (if c.cls = .cab then
          max (if screenImposes s 0 = true then (screenCfg s.tables 0).blowerFloor else 0)
            (if screenImposes s 1 = true then (screenCfg s.tables 1).blowerFloor else 0)
         else 0))) := by
  simp only [zoneBlower, ← screenBlowerFloor_eq]
  cases (zoneCfg s.tables z).cls <;> cases mode <;> simp

theorem zoneBlower_le (s : State) (z : Nat) (mode : OverrideMode) (demand : Int) : zoneBlower s z mode demand ≤ 1000 :=
  Nat.min_le_left _ _

theorem zoneDamper_eq (s : State) (z : Nat) (p : Profile) :
    zoneDamper s z p = if (zoneCfg s.tables z).cls = .cab ∧ (screenImposes s 0 = true ∨ screenImposes s 1 = true) then 1000
      else match s.override.recirculation with
        | .auto => p.freshAir
        | .fresh => 1000
        | .recirc => 0 := by
  have imposed : ((List.range 2).any fun c => screenImposes s c) = true ↔
      screenImposes s 0 = true ∨ screenImposes s 1 = true := by
    simp only [show List.range 2 = [0, 1] from rfl, List.any_cons, List.any_nil, Bool.or_false, Bool.or_eq_true]
  exact ite_iff (and_congr_right' imposed) rfl rfl

theorem sum_filter_map {α : Type} (p : α → Bool) (f : α → Nat) (xs : List α) :
    ((xs.filter p).map f).sum = (xs.map fun x => if p x = true then f x else 0).sum := by
  induction xs with
  | nil => rfl
  | cons x xs ih => cases h : p x <;> simp [h, ih]

theorem usable_iff (s : State) (k : Nat) :
    usable s.composer.outputs k = true ↔ (s.output k).failed = false ∧ (s.output k).forced = none := by
  show (!(s.output k).failed && (s.output k).forced.isNone) = true ↔ _
  simp

/-- The rated power of the usable outputs of a function in a zone's conditioning role (R76). -/
theorem conditioningSum_eq (s : State) (z : Nat) (fn : OutputFn) :
    conditioningSum s z fn = ((List.range 48).map fun k =>
      if role s.tables k = some (.conditioning z) ∧ (outputCfg s.tables k).function = some fn ∧
          (s.output k).failed = false ∧ (s.output k).forced = none then
        (outputCfg s.tables k).rated else 0).sum := by
  rw [conditioningSum, conditioningOutputs, List.filter_filter, sum_filter_map]
  congr 2
  funext k
  congr 1
  rw [eq_iff_iff, Bool.and_eq_true, Bool.and_eq_true, usable_iff, beq_iff_eq, beq_iff_eq]
  constructor
  · rintro ⟨free, fits, mine⟩
    exact ⟨mine, fits, free⟩
  · rintro ⟨mine, fits, free⟩
    exact ⟨free, fits, mine⟩

/-- The rated power of a zone's blower output, where the zone's record holds a usable one (R76). -/
theorem blowerRated_eq (s : State) (z : Nat) :
    blowerRated s z = match (zoneCfg s.tables z).blowerOutput with
      | some k => if role s.tables k = some (.zoneBlower z) ∧ (s.output k).failed = false ∧ (s.output k).forced = none then
          (outputCfg s.tables k).rated else 0
      | none => 0 := by
  unfold blowerRated zoneBlowerOutput
  cases (zoneCfg s.tables z).blowerOutput with
  | none => rfl
  | some k =>
    by_cases mine : role s.tables k = some (.zoneBlower z)
    · simp only [holds, mine, ↓reduceIte, usable_iff, true_and]
    · simp only [holds, mine, false_and, ↓reduceIte]

theorem ventPower_le (s : State) (z : Nat) {blower : Nat} (h : blower ≤ 1000) : ventPower s z blower ≤ blowerRated s z :=
  Nat.div_le_of_le_mul (by rw [Nat.mul_comm]; exact Nat.mul_le_mul_right _ h)

theorem conditioningPower_eq (s : State) (z : Nat) (demand : Int) :
    conditioningPower s z demand = if 0 < demand then demand.natAbs * conditioningSum s z .heat / 1000
      else demand.natAbs * conditioningSum s z .cool / 1000 := by
  unfold conditioningPower
  by_cases heats : 0 < demand
  · rw [if_pos heats, if_pos heats]
  · rw [if_neg heats, if_neg heats]
    by_cases cools : demand < 0
    · rw [if_pos cools]
    · rw [if_neg cools, show demand = 0 by omega]
      simp

theorem SupplyState.cut_iff (x : SupplyState) : x.cut = true ↔ x = .breaking ∨ x = .held := by
  simp only [SupplyState.cut, Bool.or_eq_true, beq_iff_eq]

theorem zoneRequest_eq (s : State) (z : Nat) (demand : Int) (blower : Nat) :
    zoneRequest s z demand blower = min 1500 (ventPower s z blower +
      if s.composer.copy.supply = .breaking ∨ s.composer.copy.supply = .held then 0
      else if 0 < demand then demand.natAbs * conditioningSum s z .heat / 1000
      else demand.natAbs * conditioningSum s z .cool / 1000) := by
  unfold zoneRequest
  by_cases cut : s.composer.copy.supply.cut = true
  · simp only [if_pos cut, if_pos ((SupplyState.cut_iff _).mp cut), Nat.add_zero]
  · simp only [if_neg cut, if_neg (mt (SupplyState.cut_iff _).mpr cut), conditioningPower_eq]

theorem zoneStorageRequest_eq (s : State) (z : Nat) (p : Profile) (regulating : Bool) (mode : OverrideMode) (sp t demand : Int)
    (blower : Nat) : zoneStorageRequest s z p regulating mode sp t demand blower =
      (let c := zoneCfg s.tables z
       let copy := s.composer.copy
       if c.cls = .saloon ∧ c.sect ≠ .joint ∧ 0 < p.storageBand ∧ regulating = true ∧ mode = .normal ∧
           p.heatEnable = true ∧ 0 ≤ demand ∧ (copy.supply = .onLine ∨ copy.supply = .offWire) ∧ 0 < copy.surplus ∧
           t < sp + p.storageBand then
         min 1500 (conditioningSum s z .heat - ((copy.zones.getD z {}).grant - ventPower s z blower)) else 0) := rfl

/-! ### The obligations -/

section
variable {s : State} {z d : Nat}

theorem execZoneStep_of_running {z : Fin 8} (hd : (s.zone z).step = some d) :
    exec (.zoneStep z) s = .next (stepZone z (s.advanceTo d)) := by
  show onExpiry (s.zone z).step (stepZone z) s = _
  rw [hd]
  rfl

/-- A step in ACTIVE sets its zone, and sets the fallback flag where no sensor is left on entry (R63, R67). -/
theorem stepZone_active (hc : s.regulator.climate = .active) :
    stepZone z s = raiseWhen (sensorTier s z == .none && (s.zone z).condition != .fallback) .zoneFallback
      (s.setZone z (zoneStepActive s z)) := by
  unfold stepZone
  rw [hc, zoneTemperature_tier]

theorem stepZone_standby (hc : s.regulator.climate = .standby) : stepZone z s = s.setZone z (zoneStepStandby s z) := by
  unfold stepZone
  rw [hc]

/-- What a step stores of the regulation's result: the law's, the fallback's, with the override mode applied (R67 to R73). -/
theorem zoneStepActive_result {r : Regulated} (h : applyMode (zoneMode s z)
      (if ((zoneTemperature s z).1 != .none) = true then
        regulate (profileCfg s.tables z (s.zone z).profile) (s.zone z) (zoneShare s z) s.composer.copy.supply (zoneMode s z)
          (zoneSetpoint s z (profileCfg s.tables z (s.zone z).profile)) (zoneTemperature s z).2 (zoneFeedforward s z)
      else fallBack (profileCfg s.tables z (s.zone z).profile) (s.zone z) (zoneCfg s.tables z).fallbackDemand) = r) :
    (zoneStepActive s z).integral = r.integral ∧ (zoneStepActive s z).rawDemand = r.rawDemand ∧
      (zoneStepActive s z).demand = r.demand := by
  rw [← h]
  exact ⟨rfl, rfl, rfl⟩

end

/-- Settles O35: the flag of FALLBACK is not set, and the step's zone is the PI law's with the override mode applied. -/
theorem zoneStepRegulates : Obligations.ZoneStepRegulates := by
  intro z d s hl hc hs usableSensor l p mode supply ff
  have hz : z.val < s.regulator.zones.length := by omega
  let t := (s.advanceTo d).setZone z (zoneStepActive (s.advanceTo d) z)
  have zone : t.zone z = zoneStepActive (s.advanceTo d) z := State.zone_setZone _ _ _ hz
  have regulating : ((zoneTemperature s z).1 != .none) = true := bne_iff_ne.mpr usableSensor
  have stepped : exec (.zoneStep z) s = .next t := by
    rw [execZoneStep_of_running hs, stepZone_active (s := s.advanceTo d) hc]
    have quiet : (sensorTier (s.advanceTo d) z == .none) = false := by
      rw [← zoneTemperature_tier]
      exact beq_false_of_ne usableSensor
    rw [quiet, Bool.false_and, raiseWhen_false]
  refine ⟨t, stepped, ?_⟩
  rw [zone]
  have hmode : zoneMode s z = mode := zoneMode_eq s z
  have hff : zoneFeedforward s z = ff := zoneFeedforward_eq s z
  refine ⟨rfl, if_pos regulating, rfl, rfl, rfl, rfl, hmode, (zoneSetpoint_bounds s z p).1, (zoneSetpoint_bounds s z p).2,
    ?_, ?_⟩
  · intro e used prop inc limited frozen i raw dem enabled
    have law : regulate p l (zoneShare s z) supply mode (zoneSetpoint s z p) (zoneTemperature s z).2 ff =
        { integral := i, rawDemand := raw, demand := enabled } := by
      simp only [regulate, integralFrozen_iff, enabledDemand_eq]
      rfl
    obtain ⟨hi, hraw, hdem⟩ := zoneStepActive_result (s := s.advanceTo d) (z := z)
      (r := applyMode mode { integral := i, rawDemand := raw, demand := enabled }) (by
        show applyMode (zoneMode s z) (if ((zoneTemperature s z).1 != .none) = true then
          regulate p l (zoneShare s z) supply (zoneMode s z) (zoneSetpoint s z p) (zoneTemperature s z).2
            (zoneFeedforward s z) else _) = _
        rw [if_pos regulating, hmode, hff, law])
    rw [hi, hraw, hdem]
    refine ⟨fun m => ?_, fun m => ?_, fun m => ?_⟩
    all_goals
      rw [m]
      exact ⟨rfl, rfl, rfl⟩
  · intro cut
    have request : (zoneStepActive (s.advanceTo d) z).request =
      zoneRequest s z (zoneStepActive (s.advanceTo d) z).demand (zoneStepActive (s.advanceTo d) z).blower := rfl
    rw [request, zoneRequest, if_pos cut]
    exact Nat.le_trans (Nat.min_le_right _ _) (ventPower_le s z (zoneBlower_le _ _ _ _))

section
variable {s : State} {z d : Nat}

/-- Without a usable sensor the step stores the fallback's demand under the override mode (R67, R73). -/
theorem zoneStepActive_fallback (h : (zoneTemperature s z).1 = .none) :
    let p := profileCfg s.tables z (s.zone z).profile
    let set := (zoneCfg s.tables z).fallbackDemand
    let dem := if (0 < set ∧ p.heatEnable = false) ∨ (set < 0 ∧ p.coolEnable = false) then 0 else set
    let n := zoneStepActive s z
    n.demand = (if zoneMode s z = .normal then dem else 0) ∧ n.rawDemand = n.demand ∧
      n.integral = (if zoneMode s z = .off then 0 else (s.zone z).integral) := by
  intro p set dem n
  obtain ⟨hi, hraw, hdem⟩ := zoneStepActive_result (s := s) (z := z)
    (r := applyMode (zoneMode s z) { integral := (s.zone z).integral, rawDemand := dem, demand := dem }) (by
      rw [if_neg (by rw [h]; decide), fallBack, enabledDemand_eq])
  rw [hdem, hraw, hi]
  cases zoneMode s z <;> exact ⟨rfl, rfl, rfl⟩

end

/-- Settles O36: each stage's equation, in STANDBY for setpoint and temperature alone; only the flag of FALLBACK reports. -/
theorem zoneFallsBackOrStandsBy : Obligations.ZoneFallsBackOrStandsBy := by
  intro z d s hl l c p o mode copy cut knob terms sp inUse reads tier best weight temp imposes counted rated blowing
  have hz : z.val < s.regulator.zones.length := by omega
  have hsp : zoneSetpoint s z p = sp := zoneSetpoint_eq s z p
  have htier : (zoneTemperature s z).1 = tier := zoneTemperature_tier s z
  have htemp : (zoneTemperature s z).2 = temp := zoneTemperature_value s z
  have hmode : zoneMode s z = mode := zoneMode_eq s z
  constructor
  · intro hs
    refine ⟨_, execZoneStep_of_running hs, ?_⟩
    cases hc : s.regulator.climate with
    | standby =>
      rw [stepZone_standby (s := s.advanceTo d) hc]
      have zone : ((s.advanceTo d).setZone z (zoneStepStandby (s.advanceTo d) z)).zone z =
          zoneStepStandby (s.advanceTo d) z := State.zone_setZone _ _ _ hz
      have stepped : zoneStepStandby (s.advanceTo d) z =
          { l with setpoint := sp, temp := temp, tier := tier, step := some (max s.now d + 1000) } := by
        rw [← hsp, ← htemp, ← htier]
        rfl
      rw [zone]
      exact ⟨⟨hsp, htemp, htier, rfl, rfl, rfl, rfl, fun _ => ⟨stepped, rfl, rfl⟩, fun h => nomatch h⟩, rfl⟩
    | active =>
      rw [stepZone_active (s := s.advanceTo d) hc]
      have zone : ∀ b, (raiseWhen b .zoneFallback ((s.advanceTo d).setZone z (zoneStepActive (s.advanceTo d) z))).zone z =
          zoneStepActive (s.advanceTo d) z := fun _ => State.zone_setZone _ _ _ hz
      rw [zone]
      refine ⟨⟨hsp, htemp, htier, rfl, rfl, rfl, rfl, ?inStandby, ?inActive⟩, rfl⟩
      case inStandby =>
        intro standby
        exact nomatch standby
      intro _
      refine ⟨?condition, hmode, ?fallback, ?flagged, ?quiet, ?blower, ?damper, ?request, ?storage⟩
      case condition =>
        show (if ((zoneTemperature s z).1 != .none) = true then ZoneCondition.regulating else .fallback) = _
        rw [htier]
        cases tier <;> rfl
      case fallback =>
        intro none dem
        rw [← hmode]
        exact zoneStepActive_fallback (s := s.advanceTo d) (htier.trans none)
      case flagged =>
        intro none entered
        have raised : (tier == .none && l.condition != .fallback) = true := by simp [none, entered]
        show hasFlag (raiseWhen (tier == .none && l.condition != .fallback) .zoneFallback _).mgmt.flags _ = true
        rw [raised]
        exact hasFlag_raise _ _
      case quiet =>
        intro calm
        have silent : (tier == .none && l.condition != .fallback) = false := by
          rcases calm with h | h <;> simp [h]
        show (raiseWhen (tier == .none && l.condition != .fallback) .zoneFallback _).mgmt = _ ∧
          (raiseWhen (tier == .none && l.condition != .fallback) .zoneFallback _).bp = _
        rw [silent]
        exact ⟨rfl, rfl⟩
      case blower =>
        show zoneBlower s z (zoneMode s z) (zoneStepActive (s.advanceTo d) z).demand = _
        rw [zoneBlower_eq, hmode]
        simp only [screenImposes_iff]
        rfl
      case damper =>
        show zoneDamper s z p = _
        rw [zoneDamper_eq]
        exact ite_iff (and_congr_right' (or_congr (screenImposes_iff s 0) (screenImposes_iff s 1))) rfl rfl
      case request =>
        have request := zoneRequest_eq s z (zoneStepActive (s.advanceTo d) z).demand
          (zoneStepActive (s.advanceTo d) z).blower
        rw [ventPower, blowerRated_eq, conditioningSum_eq, conditioningSum_eq] at request
        exact request
      case storage =>
        show zoneStorageRequest s z p ((zoneTemperature s z).1 != .none) (zoneMode s z) (zoneSetpoint s z p)
          (zoneTemperature s z).2 (zoneStepActive (s.advanceTo d) z).demand (zoneStepActive (s.advanceTo d) z).blower = _
        rw [zoneStorageRequest_eq, hmode, hsp, htemp, htier, ventPower, blowerRated_eq, conditioningSum_eq]
        simp only [bne_iff_ne]
        rfl
  · intro hh
    show onExpiry (s.zone z).hold (endHold z) s = _
    rw [hh]
    rfl

end Sys2Proof.Machine
end

section
/-! PROOFS. The doors (chapter 5) and the blocks' climate state notices: O37 to O40. -/

namespace Sys2Proof.Machine

-- One theorem at a time: a thread for each of them at once would not fit into the checker's memory bound.
set_option Elab.async false

theorem Quality.present_iff (q : Quality) : q.present = true ↔ q ≠ .none := bne_iff_ne

/-! ### Curtain and request -/

section
variable (s : State) (d : Nat)

theorem doorHeatPower_eq (stage : Nat) : doorHeatPower s d stage = match (doorCfg s.tables d).curtainHeat with
    | some k => if role s.tables k = some (.curtainHeat d) ∧ (s.output k).failed = false ∧ (s.output k).forced = none then
        stage * (globals s.tables).stagePower else 0
    | none => 0 := by
  unfold doorHeatPower curtainHeatOutput
  cases (doorCfg s.tables d).curtainHeat with
  | none => rfl
  | some k =>
    by_cases mine : role s.tables k = some (.curtainHeat d)
    · simp only [holds, mine, ↓reduceIte, usable_iff, true_and]
    · simp only [holds, mine, false_and, ↓reduceIte]

/-- The fan's power at a level: that of its demanded value, and none at OFF (R93, R97). -/
theorem fanPower_eq (kind : OutputKind) (rated : Nat) (fan : FanLevel) : kind.power rated (curtainFanDemand kind fan) =
    if fan ≠ .off then
      (match kind with
        | .staged n => rated * (if fan = .low then (n + 1) / 2 else n) / n
        | .proportional => rated * (if fan = .low then 500 else 1000) / 1000
        | .switched => rated)
    else 0 := by
  cases fan with
  | off => cases kind <;> simp [curtainFanDemand, OutputKind.power]
  | low => cases kind <;> rfl
  | on => cases kind <;> rfl

theorem doorFanPower_eq (fan : FanLevel) : doorFanPower s d fan = match (doorCfg s.tables d).curtainFan with
    | some k =>
      if role s.tables k = some (.curtainFan d) ∧ ((s.output k).failed = false ∧ (s.output k).forced = none) ∧ fan ≠ .off then
        (match (outputCfg s.tables k).kind with
          | .staged n => (outputCfg s.tables k).rated * (if fan = .low then (n + 1) / 2 else n) / n
          | .proportional => (outputCfg s.tables k).rated * (if fan = .low then 500 else 1000) / 1000
          | .switched => (outputCfg s.tables k).rated)
      else 0
    | none => 0 := by
  unfold doorFanPower curtainFanOutput
  cases (doorCfg s.tables d).curtainFan with
  | none => rfl
  | some k =>
    by_cases mine : role s.tables k = some (.curtainFan d)
    · simp only [holds, mine, ↓reduceIte, usable_iff, true_and, fanPower_eq, ite_both]
    · simp only [holds, mine, false_and, ↓reduceIte]

theorem doorRequest_eq (stage : Nat) (fan : FanLevel) : doorRequest s d stage fan = min 1500
    (if s.composer.copy.supply = .breaking ∨ s.composer.copy.supply = .held then doorFanPower s d fan
      else doorHeatPower s d stage + doorFanPower s d fan) := by
  simp only [doorRequest, SupplyState.cut_iff]

end

/-! ### Notices of a door -/

section
variable {s : State} {d : Nat}

theorem doorListens_iff : doorListens s d = true ↔ (doorCfg s.tables d).valid = true ∧ s.doors.climate = .active := by
  simp only [doorListens, Bool.and_eq_true, beq_iff_eq]

theorem slowEnough_iff : slowEnough s = true ↔ (s.read (globals s.tables).speedSlot).2 ≠ .none ∧
    (s.read (globals s.tables).speedSlot).1 < (globals s.tables).preOpenSpeed := by
  simp only [slowEnough, Bool.and_eq_true, Quality.present_iff, decide_eq_true_eq]

theorem releaseStands_iff : releaseStands s d = true ↔ (s.read (doorCfg s.tables d).releaseSlot).2 ≠ .none ∧
    (s.read (doorCfg s.tables d).releaseSlot).1 = 1 := by
  simp only [releaseStands, Bool.and_eq_true, Quality.present_iff, decide_eq_true_eq]

/-- A door once it has heard a door-open write: its signal-lost timer starts anew (R85). -/
def heardDoor (s : State) (l : DoorLive) : DoorLive :=
  { l with signalLost := s.startTimer (1000 * (globals s.tables).signalLostTime) }

variable {l : DoorLive} (hl : s.door d = l)
include hl

/-- The door's answer to a door-open write, by the state it was in (R85, R91). -/
theorem doorOpenActive_eq (v : Int) : doorOpenActive s d v =
    if l.state = .opened ∨ l.state = .layover then
      (if v = 1 then heardDoor s l else enterRunOn s d (heardDoor s l))
    else if v = 1 then enterOpen s d (heardDoor s l)
    else if l.state = .fault then settleDoor s d { heardDoor s l with state := .idle } else heardDoor s l := by
  rw [doorOpenActive, hl]
  rcases l with ⟨st⟩
  cases st <;> rfl

/-- A release makes an IDLE door READY only with a release slot and at low speed (R86, R87). -/
theorem releaseActive_idle {v : Int} (h : l.state = .idle) :
    releaseActive s d v = if v = 1 ∧ slowEnough s = true ∧ (doorCfg s.tables d).releaseSlot ≠ none then
      settleDoor s d { l with state := .ready } else l := by
  rw [releaseActive, hl]
  rw [h]
  simp only [Option.isSome_iff_ne_none]

theorem releaseActive_ready {v : Int} (h : l.state = .ready) :
    releaseActive s d v = if v = 1 then l else settleDoor s d { l with state := .idle } := by
  rw [releaseActive, hl]
  rw [h]

theorem releaseActive_other {v : Int} (h : l.state ≠ .idle) (h' : l.state ≠ .ready) : releaseActive s d v = l := by
  rw [releaseActive, hl]
  cases hst : l.state with
  | idle => exact absurd hst h
  | ready => exact absurd hst h'
  | opened | layover | runOn | fault => rfl

end

/-- Settles O38: a notice is dropped, and a door that listens makes the transition of its state. -/
theorem doorNoticesMoveDoor : Obligations.DoorNoticesMoveDoor := by
  intro d i v m rest s hlen l g c heard speed slow listens
  have hd : d.val < s.doors.doors.length := by omega
  let s1 := dropDoorNotice d rest s
  have dropped : s1.door d = { l with notices := rest } := State.door_setDoor _ _ _ hd
  have length1 : d.val < s1.doors.doors.length := by
    show d.val < (s.doors.doors.set d _).length
    rw [List.length_set]
    exact hd
  have setTwice : ∀ x, s1.setDoor d x = { s with doors := { s.doors with doors := s.doors.doors.set d x } } := by
    intro x
    show ({ s with doors := { s.doors with doors := (s.doors.doors.set d _).set d x } } : State) = _
    rw [List.set_set]
  have listens_iff : doorListens s1 d = true ↔ listens := doorListens_iff
  constructor
  · intro hn
    have taken : exec (.doorOpenNotice d) s = .next (takeDoorOpen d v s1) := by
      simp only [exec, execDoorOpenNotice, show (s.door d).notices = _ from hn]
      rfl
    have door : (takeDoorOpen d v s1).door d = if doorListens s1 d then doorOpenActive s1 d v else s1.door d :=
      State.door_setDoor _ _ _ length1
    refine ⟨_, taken, ?_, ?_, ?_⟩
    · intro deaf
      rw [door, if_neg (mt listens_iff.mp deaf), dropped]
    · intro awake
      rw [door, if_pos (listens_iff.mpr awake), doorOpenActive_eq dropped v]
      refine ⟨?_, ?_, ?_, ?_, ?_⟩
      · intro hv h h'
        exact (if_neg (not_or.mpr ⟨h, h'⟩)).trans (if_pos hv)
      · intro hv h
        exact (if_pos h).trans (if_pos hv)
      · intro hv h
        exact (if_pos h).trans (if_neg hv)
      · intro hv h
        have shut : ¬(l.state = .opened ∨ l.state = .layover) := by rw [h]; decide
        exact (if_neg shut).trans ((if_neg hv).trans (if_pos h))
      · intro hv h
        have shut : ¬(l.state = .opened ∨ l.state = .layover) := by rcases h with h | h | h <;> rw [h] <;> decide
        have healthy : l.state ≠ .fault := by rcases h with h | h | h <;> rw [h] <;> decide
        exact (if_neg shut).trans ((if_neg hv).trans (if_neg healthy))
    · rw [door]
      exact setTwice _
  · intro hn
    have taken : exec (.releaseNotice d) s = .next (takeRelease d v s1) := by
      simp only [exec, execReleaseNotice, show (s.door d).notices = _ from hn]
      rfl
    have door : (takeRelease d v s1).door d = if doorListens s1 d then releaseActive s1 d v else s1.door d :=
      State.door_setDoor _ _ _ length1
    refine ⟨_, taken, ?_, ?_, ?_, ?_⟩
    · intro awake h
      rw [door, if_pos (listens_iff.mpr awake), releaseActive_idle dropped h]
      simp only [slowEnough_iff]
      rfl
    · intro awake h
      rw [door, if_pos (listens_iff.mpr awake)]
      exact releaseActive_ready dropped h
    · intro idle
      rw [door]
      by_cases awake : doorListens s1 d = true
      · rw [if_pos awake]
        obtain ⟨h, h'⟩ := idle.resolve_left (fun deaf => deaf (listens_iff.mp awake))
        exact releaseActive_other dropped h h'
      · rw [if_neg awake, dropped]
    · rw [door]
      exact setTwice _

/-- Settles O39: the curtain's evaluation by the door's state, and the three expiries. -/
theorem doorTimersMoveDoor : Obligations.DoorTimersMoveDoor := by
  constructor
  · intro d l s g c out own inhibited stage fan counted heatPower fanPower
    have hown : (curtainOf s l.state l.heldStage).1 = own := by
      unfold own
      cases l.state <;> rfl
    have hfan : (if s.override.curtainInhibit = true then .off else (curtainOf s l.state l.heldStage).2) = fan := by
      unfold fan
      cases l.state <;> rfl
    have hheat : doorHeatPower s d stage = heatPower := doorHeatPower_eq s d stage
    have hfanPower : doorFanPower s d fan = fanPower := doorFanPower_eq s d fan
    unfold settleDoor evaluateCurtain
    simp only [hown, hfan]
    rw [show (if s.override.curtainInhibit = true then 0 else own) = stage from rfl, doorRequest_eq, hheat, hfanPower]
  · intro d e s hlen l moved
    refine ⟨fun h => ?_, fun h => ?_, fun h => ?_⟩
    · show onExpiry l.openTimer (openTimerEnds d) s = _
      rw [h]
      rfl
    · show onExpiry l.runOn (runOnEnds d) s = _
      rw [h]
      rfl
    · show onExpiry l.signalLost (signalLostEnds d) s = _
      rw [h]
      rfl

/-! ### The period -/

section
variable (s : State) (d : Nat)

/-- The pre-open test moves IDLE and READY alone (R87). -/
theorem preOpen_eq (st : DoorState) : preOpen s d st = if st = .idle ∨ st = .ready then
    (if releaseStands s d = true ∧ slowEnough s = true then .ready else .idle) else st := by
  cases st with
  | idle | ready => simp only [preOpen, Bool.and_eq_true, true_or, or_true, ↓reduceIte]
  | opened | layover | runOn | fault => simp [preOpen]

/-- A door gains in OPEN and LAYOVER, which the pre-open test neither enters nor leaves (R94). -/
theorem debtGain_preOpen (st : DoorState) : debtGain s d (preOpen s d st) =
    (let c := doorCfg s.tables d
     let diff : Int := max 0 ((s.zone c.primaryZone).temp - (s.read (globals s.tables).outdoorSlot).1)
     let heat (f : Int) : Nat := if (zoneCfg s.tables c.primaryZone).valid = true then (diff * f / 64).toNat else 0
     if st = .opened then heat c.openFactor else if st = .layover then heat (c.openFactor / 4) else 0) := by
  cases st with
  | opened | layover => rfl
  | runOn | fault => simp [preOpen, debtGain]
  | idle | ready =>
    simp only [preOpen, reduceCtorEq, ↓reduceIte]
    split <;> simp [debtGain]

theorem preOpen_ne_fault {st : DoorState} (h : st ≠ .fault) : preOpen s d st ≠ .fault := by
  rw [preOpen_eq]
  split
  · split <;> decide
  · exact h

theorem payback_eq (ff : Nat) : payback s d ff =
    (let z := (doorCfg s.tables d).primaryZone
     let share := s.composer.copy.zones.getD z {}
     let request := if (zoneCfg s.tables z).valid = true ∧ (s.zone z).unpublished = false then share.request else 0
     if s.composer.copy.supply = .breaking ∨ s.composer.copy.supply = .held then 0
     else if request = 0 then ff else ff * share.grant / request) := by
  simp only [payback, readRequest, SupplyState.cut_iff, Bool.and_eq_true, Bool.not_eq_true']
  rfl

/-- Debt and feedforward outside FAULT (R94 to R96). -/
theorem payDebt_eq {l : DoorLive} (h : l.state ≠ .fault) : payDebt s d l =
    { l with
      debt := debtGained s d l.state l.debt - payback s d (feedforward s d (debtGained s d l.state l.debt))
      ff := feedforward s d (debtGained s d l.state l.debt) } := by
  unfold payDebt
  cases hst : l.state with
  | fault => exact absurd hst h
  | idle | ready | opened | layover | runOn => rfl

variable {s d}

theorem doorPeriodActive_fault (h : (s.door d).state = .fault) :
    doorPeriodActive s d = { settleDoor s d (s.door d) with period := s.startTimer Config.doorPeriodMs } := by
  have same : preOpen s d (s.door d).state = (s.door d).state := by rw [h]; rfl
  unfold doorPeriodActive
  simp only [same]
  have paid : payDebt s d (evaluateCurtain s (s.door d)) = evaluateCurtain s (s.door d) := by
    unfold payDebt
    rw [show (evaluateCurtain s (s.door d)).state = .fault from h]
  rw [show ({ s.door d with state := (s.door d).state } : DoorLive) = s.door d from rfl, paid]
  rfl

theorem doorPeriodActive_eq (h : (s.door d).state ≠ .fault) :
    doorPeriodActive s d =
      (let state := preOpen s d (s.door d).state
       let debt := debtGained s d state (s.door d).debt
       let ff := feedforward s d debt
       { settleDoor s d { s.door d with state := state } with
         debt := debt - payback s d ff, ff := ff, period := s.startTimer Config.doorPeriodMs }) := by
  unfold doorPeriodActive
  dsimp only
  rw [payDebt_eq]
  · rfl
  · exact preOpen_ne_fault s d h

theorem periodDoor_standby {l : DoorLive} (hl : s.door d = l) (hc : s.doors.climate = .standby) :
    periodDoor d s = s.setDoor d { l with period := s.startTimer Config.doorPeriodMs } := by
  rw [periodDoor, hc, hl]

theorem periodDoor_active (hc : s.doors.climate = .active) : periodDoor d s = s.setDoor d (doorPeriodActive s d) := by
  rw [periodDoor, hc]

end

/-- Settles O37: in STANDBY the timer alone, in FAULT without the debt's stage, else all four stages. -/
theorem doorPeriodAccountsDebt : Obligations.DoorPeriodAccountsDebt := by
  intro d e s hlen hp l g c z out diff heat gain debt ff request paid released speed state
  have hd : d.val < s.doors.doors.length := by omega
  let s1 := s.advanceTo e
  have ran : exec (.doorPeriod d) s = .next (periodDoor d s1) := by
    show onExpiry l.period (periodDoor d) s = _
    rw [show l.period = some e from hp]
    rfl
  refine ⟨_, ran, ?_⟩
  cases hc : s.doors.climate with
  | standby =>
    rw [periodDoor_standby (s := s1) (l := l) rfl hc]
    have door : (s1.setDoor d { l with period := s1.startTimer Config.doorPeriodMs }).door d =
        { l with period := s1.startTimer Config.doorPeriodMs } := State.door_setDoor _ _ _ hd
    rw [door]
    refine ⟨rfl, fun _ => rfl, ?_, ?_, ?_⟩
    · intro active
      exact nomatch active
    · intro active
      exact nomatch active
    · rfl
  | active =>
    rw [periodDoor_active (s := s1) hc]
    have door : (s1.setDoor d (doorPeriodActive s1 d)).door d = doorPeriodActive s1 d := State.door_setDoor _ _ _ hd
    rw [door]
    refine ⟨rfl, ?_, ?_, ?_, ?_⟩
    · intro standby
      exact nomatch standby
    · intro _ fault
      exact doorPeriodActive_fault (s := s1) fault
    · intro _ healthy
      have hstate : preOpen s d l.state = state := by
        rw [preOpen_eq]
        simp only [releaseStands_iff, slowEnough_iff, and_assoc]
        rfl
      have hdebt : debtGained s d (preOpen s d l.state) l.debt = debt := by
        rw [debtGained, debtGain_preOpen]
      have hff : feedforward s d debt = ff := rfl
      have hpaid : payback s d ff = paid := payback_eq s d ff
      rw [doorPeriodActive_eq (s := s1) healthy]
      show ({ settleDoor s d { l with state := preOpen s d l.state } with
        debt := debtGained s d (preOpen s d l.state) l.debt
          - payback s d (feedforward s d (debtGained s d (preOpen s d l.state) l.debt))
        ff := feedforward s d (debtGained s d (preOpen s d l.state) l.debt)
        period := some (max s.now e + 1000) } : DoorLive) = _
      rw [hdebt, hff, hpaid, hstate]
    · rfl

/-! ### Climate state notices -/

/-- Settles O40: each block's notice, either climate state. -/
theorem climateNoticesTaken : Obligations.ClimateNoticesTaken := by
  intro c rest s
  refine ⟨fun h => ?_, fun h => ?_, fun h => ?_, fun h => ?_⟩
  · have door : doorAtClimate s c = fun d l =>
        if (doorCfg s.tables d).valid = true then
          { state := .idle, stage := 0, ownStage := 0, heldStage := 0, fan := .off, debt := 0, ff := 0, request := 0
            period := l.period, openTimer := none, runOn := none
            signalLost := if c = .active then some (s.now + 1000 * (globals s.tables).signalLostTime) else none
            notices := l.notices }
        else l := by
      funext d l
      unfold doorAtClimate
      cases c <;> rfl
    simp only [exec, execDoorClimateNotice, h]
    rw [doorsTakeClimate, door]
    rfl
  · simp only [exec, execScreenClimateNotice, h]
    rfl
  · have outputs : (fun l : OutputLive => if c = .standby ∧ l.forced = none then { l with value := 0 } else l) =
        fun l => { l with value := if c = .standby ∧ l.forced = none then 0 else l.value } := by
      funext l
      split <;> rfl
    simp only [exec, execComposerClimateNotice, h]
    rw [composerTakesClimate, outputs]
    rfl
  · simp only [exec, execStackClimateNotice, h]
    cases c <;> rfl

end Sys2Proof.Machine
end

section
/-! PROOFS. The screen evaluation (chapter 6): O41. -/

namespace Sys2Proof.Machine

-- One theorem at a time: a thread for each of them at once would not fit into the checker's memory bound.
set_option Elab.async false

/-! ### The stages of an evaluation -/

/-- The depression, interpolated with the floor between two points and held at the last (R104). -/
theorem depressionAt_eq (t : Tables) (humidity : Int) :
    depressionAt t humidity =
      (let rh := max 0 (min 1000 humidity)
       let i := (rh / 100).toNat
       if rh = 1000 then depressionPoint t 10
       else depressionPoint t i - (depressionPoint t i - depressionPoint t (i + 1)) * (rh - 100 * i) / 100) := by
  unfold depressionAt clampInt floorDiv
  generalize hrh : max 0 (min 1000 humidity) = rh
  have range : 0 ≤ rh ∧ rh ≤ 1000 := by omega
  dsimp only
  by_cases full : rh = 1000
  · rw [if_pos full, if_neg (by omega)]
  · rw [if_neg full, if_pos (by omega)]

section
variable {s : State} {c : Nat}

/-- Whether one of the air's two sensors is lost (R107). -/
theorem airLost_iff : (!((s.read (screenCfg s.tables c).air).2.present && (s.read (screenCfg s.tables c).humidity).2.present))
      = true ↔
    (s.read (screenCfg s.tables c).air).2 = .none ∨ (s.read (screenCfg s.tables c).humidity).2 = .none := by
  rw [Bool.not_eq_true', Bool.and_eq_false_iff]
  simp only [Quality.present, bne_eq_false_iff_eq]

/-- With the glass sensor lost the outdoor temperature decides (R107). -/
theorem screenCondition_glassLost (m : Int) (h : (s.read (screenCfg s.tables c).glass).2 = .none) :
    screenCondition s c m =
      (if (s.read (globals s.tables).outdoorSlot).1 ≤ 5 then .fogging else .marginal, .glassLost) := by
  unfold screenCondition
  exact if_pos (by rw [h]; rfl)

/-- The ice test with its hysteresis (R105). -/
theorem iceTest_iff (previous : ScreenCondition) (glass out : Int) : iceTest previous glass out = true ↔
    (previous = .ice ∧ glass ≤ 29) ∨ (previous ≠ .ice ∧ glass ≤ 0 ∧ out ≤ 5) := by
  cases previous <;> simp [iceTest]

section
variable (glass : (s.read (screenCfg s.tables c).glass).2 ≠ .none)
include glass

theorem screenCondition_ice (m : Int) (ice : iceTest (s.screen c).condition (s.read (screenCfg s.tables c).glass).1
      (s.read (globals s.tables).outdoorSlot).1 = true) :
    screenCondition s c m = (.ice, if (s.read (screenCfg s.tables c).air).2 = .none ∨
      (s.read (screenCfg s.tables c).humidity).2 = .none then .airLost else .iceTest) := by
  have present : ¬ (s.read (screenCfg s.tables c).glass).2.present = false :=
    (Bool.not_eq_false _).mpr ((Quality.present_iff _).mpr glass)
  unfold screenCondition
  dsimp only
  rw [if_neg present, if_pos ice]
  simp only [airLost_iff]

theorem screenCondition_airLost (m : Int) (ice : ¬ iceTest (s.screen c).condition
      (s.read (screenCfg s.tables c).glass).1 (s.read (globals s.tables).outdoorSlot).1 = true)
    (dry : (s.read (screenCfg s.tables c).air).2 = .none ∨ (s.read (screenCfg s.tables c).humidity).2 = .none) :
    screenCondition s c m = (.marginal, .airLost) := by
  have present : ¬ (s.read (screenCfg s.tables c).glass).2.present = false :=
    (Bool.not_eq_false _).mpr ((Quality.present_iff _).mpr glass)
  unfold screenCondition
  dsimp only
  rw [if_neg present, if_neg ice, if_pos (airLost_iff.mpr dry)]

theorem screenCondition_margin (m : Int) (ice : ¬ iceTest (s.screen c).condition
      (s.read (screenCfg s.tables c).glass).1 (s.read (globals s.tables).outdoorSlot).1 = true)
    (wet : ¬((s.read (screenCfg s.tables c).air).2 = .none ∨ (s.read (screenCfg s.tables c).humidity).2 = .none)) :
    screenCondition s c m = (marginCondition (screenCfg s.tables c)
      (if (s.screen c).condition = .ice then .fogging else (s.screen c).condition) m, .margin) := by
  have present : ¬ (s.read (screenCfg s.tables c).glass).2.present = false :=
    (Bool.not_eq_false _).mpr ((Quality.present_iff _).mpr glass)
  unfold screenCondition
  dsimp only
  rw [if_neg present, if_neg ice, if_neg (mt airLost_iff.mp wet)]

end

/-- The margin's condition with its hysteresis, a channel that leaves ICE counted as FOGGING (R105, R106). -/
theorem marginCondition_eq (r : ScreenCfg) (previous : ScreenCondition) (m : Int) :
    marginCondition r (if previous = .ice then .fogging else previous) m =
      (let wet := previous = .fogging ∨ previous = .ice
       if m ≤ r.fog then .fogging
       else if wet ∧ m ≤ r.fog + r.hysteresis then .fogging
       else if m ≤ r.marginal then .marginal
       else if (wet ∨ previous = .marginal) ∧ m ≤ r.marginal + r.hysteresis then .marginal
       else .clear) := by
  cases previous <;> simp [marginCondition]

theorem levelPower_le (level : Nat) : (screenCfg s.tables c).levelPower.getD level 0 ≤ 1500 := by
  have each : ∀ x ∈ (screenCfg s.tables c).levelPower, x ≤ 1500 := by
    intro x hx
    simp only [screenCfg, List.mem_cons, List.not_mem_nil, or_false] at hx
    omega
  exact getD_of_forall each (by omega) _

/-- The request is the power of the level where the channel holds a heater that counts, and the line is there (R111). -/
theorem screenRequest_eq (level : Nat) : screenRequest s c level = match (screenCfg s.tables c).heater with
    | some k =>
      if role s.tables k = some (.screenHeater c) ∧ (s.output k).failed = false ∧ (s.output k).forced = none ∧
          0 < level ∧ s.composer.copy.supply ≠ .breaking ∧ s.composer.copy.supply ≠ .held then
        (screenCfg s.tables c).levelPower.getD (level - 1) 0 else 0
    | none => 0 := by
  unfold screenRequest screenHeaterOutput
  cases (screenCfg s.tables c).heater with
  | none => simp [holds]
  | some k =>
    by_cases cut : s.composer.copy.supply.cut = true
    · have gone : ¬(s.composer.copy.supply ≠ .breaking ∧ s.composer.copy.supply ≠ .held) := by
        rw [← not_or, Classical.not_not]
        exact (SupplyState.cut_iff _).mp cut
      simp only [cut, ↓reduceIte, gone, and_false]
    · have there : s.composer.copy.supply ≠ .breaking ∧ s.composer.copy.supply ≠ .held :=
        not_or.mp (mt (SupplyState.cut_iff _).mpr cut)
      by_cases mine : role s.tables k = some (.screenHeater c)
      · simp only [cut, Bool.false_eq_true, ↓reduceIte, holds, mine, usable_iff, there, ne_eq, not_false_eq_true, and_true,
          true_and, and_assoc]
        split
        · exact Nat.min_eq_right (levelPower_le _)
        · rfl
      · simp only [cut, Bool.false_eq_true, ↓reduceIte, holds, mine, false_and]
        rfl

theorem ScreenCondition.fogged_iff (x : ScreenCondition) : x.fogged = true ↔ x = .fogging ∨ x = .ice := by
  simp only [ScreenCondition.fogged, Bool.or_eq_true, beq_iff_eq]

theorem evaluateScreen_standby {old : ScreenLive} (ho : s.screen c = old) (hc : s.screens.climate = .standby) :
    evaluateScreen c s = s.setScreen c { old with
      depression := (dewPointOf s c).depression, dewPoint := (dewPointOf s c).dewPoint, margin := (dewPointOf s c).margin
      timer := s.startTimer Config.screenEvalMs } := by
  rw [evaluateScreen, hc, ← ho]
  rfl

theorem evaluateScreen_active (hc : s.screens.climate = .active) :
    evaluateScreen c s = raiseWhen ((screenActive s c).condition.fogged && !(s.screen c).condition.fogged) .screenFog
      (s.setScreen c (screenActive s c)) := by
  rw [evaluateScreen, hc]

end

/-- Settles O41: depression and margin in either climate state, and in ACTIVE condition, levels, request and flag. -/
theorem screenEvaluationDecides : Obligations.ScreenEvaluationDecides := by
  intro c d s hlen ht r old glass out dry rh i point depression
  have hc : c.val < s.screens.channels.length := by omega
  let s1 := s.advanceTo d
  have ran : exec (.screenEvaluation c) s = .next (evaluateScreen c s1) := by
    show onExpiry old.timer (evaluateScreen c) s = _
    rw [show old.timer = some d from ht]
    rfl
  refine ⟨_, ran, ?_⟩
  have hdepression : depressionAt s.tables (s.read r.humidity).1 = depression := depressionAt_eq _ _
  cases climate : s.screens.climate with
  | standby =>
    rw [evaluateScreen_standby (s := s1) (old := old) rfl climate]
    have screen : ∀ x, (s1.setScreen c x).screen c = x := fun x => State.screen_setScreen _ _ _ hc
    rw [screen]
    refine ⟨⟨rfl, hdepression, ?_, rfl, ?_, ?_⟩, rfl, rfl⟩
    · rw [← hdepression]
      rfl
    · intro _
      exact ⟨rfl, rfl, rfl⟩
    · intro active
      exact nomatch active
  | active =>
    rw [evaluateScreen_active (s := s1) climate]
    have screen : ∀ b, (raiseWhen b .screenFog (s1.setScreen c (screenActive s1 c))).screen c = screenActive s1 c :=
      fun _ => State.screen_setScreen _ _ _ hc
    rw [screen]
    refine ⟨⟨rfl, hdepression, ?dew, rfl, ?inStandby, ?inActive⟩, rfl, rfl⟩
    case dew =>
      rw [← hdepression]
      rfl
    case inStandby =>
      intro standby
      exact nomatch standby
    case inActive =>
      intro _
      have condition : ((screenActive s1 c).condition, (screenActive s1 c).basis) =
        screenCondition s c (screenActive s1 c).margin := rfl
      have parts : ∀ {x : ScreenCondition} {y : ScreenBasis}, screenCondition s c (screenActive s1 c).margin = (x, y) →
          (screenActive s1 c).condition = x ∧ (screenActive s1 c).basis = y := by
        intro x y h
        rw [h] at condition
        exact Prod.mk.inj condition
      refine ⟨?lost, ?iced, ?freezing, ?thawed, rfl, rfl, ?request, ?flag⟩
      case lost =>
        intro lost
        exact parts (screenCondition_glassLost _ lost)
      case iced =>
        intro there ice cold
        exact parts (screenCondition_ice there _ ((iceTest_iff _ _ _).mpr (.inl ⟨ice, cold⟩)))
      case freezing =>
        intro there ice cold frost
        exact parts (screenCondition_ice there _ ((iceTest_iff _ _ _).mpr (.inr ⟨ice, cold, frost⟩)))
      case thawed =>
        intro there warm
        have noIce : ¬ iceTest old.condition glass.1 out = true := by
          rw [iceTest_iff]
          rcases warm with ⟨ice, warm⟩ | ⟨ice, warm⟩
          · rintro (⟨-, cold⟩ | ⟨other, -⟩)
            · omega
            · exact other ice
          · rintro (⟨other, -⟩ | ⟨-, cold⟩)
            · exact ice other
            · exact warm cold
        constructor
        · intro isDry
          exact parts (screenCondition_airLost there _ noIce isDry)
        · intro isWet
          obtain ⟨hcondition, hbasis⟩ := parts (screenCondition_margin there _ noIce isWet)
          exact ⟨hbasis, hcondition.trans (marginCondition_eq _ _ _)⟩
      case request => exact screenRequest_eq (s := s) _
      case flag =>
        intro entered
        have raised : ((screenActive s1 c).condition.fogged && !old.condition.fogged) = true ↔ entered := by
          rw [Bool.and_eq_true, ScreenCondition.fogged_iff]
          refine and_congr_right' ?_
          cases old.condition <;> simp [ScreenCondition.fogged]
        constructor
        · intro h
          show hasFlag (raiseWhen ((screenActive s1 c).condition.fogged && !old.condition.fogged) _ _).mgmt.flags _ = true
          rw [raised.mpr h]
          exact hasFlag_raise _ _
        · intro h
          show (raiseWhen ((screenActive s1 c).condition.fogged && !old.condition.fogged) _ _).mgmt = _ ∧
            (raiseWhen ((screenActive s1 c).condition.fogged && !old.condition.fogged) _ _).bp = _
          rw [Bool.eq_false_iff.mpr (mt raised.mp h)]
          exact ⟨rfl, rfl⟩

end Sys2Proof.Machine
end

section
/-! PROOFS. The override stack (chapter 9): O49 to O51. -/

namespace Sys2Proof.Machine

-- One theorem at a time: a thread for each of them at once would not fit into the checker's memory bound.
set_option Elab.async false

/-! ### Desk requests -/

section
variable {s : State} {data : List Byte} {rest : List (List Byte)}

/-- The state once its oldest desk hand-off is taken. -/
def deskTaken (s : State) (rest : List (List Byte)) : State := s.setOverrides { s.overrides with handOffs := rest }

theorem takeDesk_mine {isMine : List Byte → Bool} (hd : s.overrides.handOffs = data :: rest) (mine : isMine data = true) :
    takeDesk isMine s = .next (dealDesk data (deskTaken s rest)) := by
  rw [takeDesk, hd]
  exact if_pos mine

theorem dealDesk_standby (h : s.overrides.climate = .standby) : dealDesk data s = rejectDesk s := by
  rw [dealDesk, h]

variable (h : s.overrides.climate = .active)
include h

theorem dealDesk_push {p : Byte} {more : List Byte} : dealDesk (1 :: p :: more) s = doPush p.toNat s := by
  rw [dealDesk, h]
  rfl

theorem dealDesk_pop {more : List Byte} : dealDesk (2 :: more) s = doPop s := by
  rw [dealDesk, h]
  rfl

theorem dealDesk_remove {p : Byte} {more : List Byte} : dealDesk (3 :: p :: more) s = doRemove p.toNat s := by
  rw [dealDesk, h]
  rfl

theorem dealDesk_clear {more : List Byte} : dealDesk (4 :: more) s = doClear s := by
  rw [dealDesk, h]
  rfl

theorem dealDesk_unknown (hd : deskAction data = none) : dealDesk data s = rejectDesk s := by
  rw [dealDesk, h, hd]

/-- A PUSH or REMOVE that ends before its preset byte is rejected (R154). -/
theorem dealDesk_short {a : Byte} (ha : deskAction [a] = some .push ∨ deskAction [a] = some .remove) :
    dealDesk [a] s = rejectDesk s := by
  rw [dealDesk, h]
  rcases ha with ha | ha <;> rw [ha] <;> rfl

end

/-- An action byte other than 1 to 4 asks for nothing (R154). -/
theorem deskAction_unknown {a : Byte} {more : List Byte} (h : a.toNat = 0 ∨ 4 < a.toNat) : deskAction (a :: more) = none := by
  unfold deskAction
  dsimp only
  split
  iterate 4 omega
  rfl

theorem inStack_iff (es : List StackEntry) (p : Nat) : inStack es p = true ↔ ∃ e ∈ es, e.preset = p := by
  simp only [inStack, List.any_eq_true, beq_iff_eq]

/-- Settles O49: the hand-off is the command's own, and each action has its own equation. -/
theorem deskRequestsCarriedOut : Obligations.DeskRequestsCarriedOut := by
  intro p more data rest s hc hd es after c others pushed
  have active : (deskTaken s rest).overrides.climate = .active := hc
  refine ⟨?_, ?_, ?_, ?_⟩
  · rintro rfl hp hv
    have ran : exec .push s = .next (pushPreset p.toNat (deskTaken s rest)) := by
      show takeDesk _ s = _
      rw [takeDesk_mine hd (by rfl), dealDesk_push active, doPush, if_pos ⟨hp, hv⟩]
    rw [ran]
    constructor
    · intro room
      have noDiscard : decide (Config.stackDepth ≤ others.length) = false := decide_eq_false (Nat.not_le.mpr room)
      have all : others.take (Config.stackDepth - 1) = others :=
        List.take_of_length_le (Nat.le_of_lt_succ room)
      show Host.Outcome.next (raiseWhen (decide (Config.stackDepth ≤ others.length)) .overrideDiscard
        (setEntries (pushed :: others.take (Config.stackDepth - 1)) (deskTaken s rest))) = _
      rw [noDiscard, all]
      rfl
    · intro full
      have discard : decide (Config.stackDepth ≤ others.length) = true := decide_eq_true full
      show Host.Outcome.next (raiseWhen (decide (Config.stackDepth ≤ others.length)) .overrideDiscard
        (setEntries (pushed :: others.take (Config.stackDepth - 1)) (deskTaken s rest))) = _
      rw [discard]
      rfl
  · rintro rfl e tail he
    show takeDesk _ s = _
    rw [takeDesk_mine hd (by rfl), dealDesk_pop active, doPop, show (deskTaken s rest).overrides.entries = e :: tail from he]
    rfl
  · rintro rfl found
    show takeDesk _ s = _
    rw [takeDesk_mine hd (by rfl), dealDesk_remove active, doRemove]
    exact congrArg _ (if_pos ((inStack_iff _ _).mpr found))
  · rintro rfl
    show takeDesk _ s = _
    rw [takeDesk_mine hd (by rfl), dealDesk_clear active]
    rfl

/-- Settles O50: DESK_REJECT takes what R154 itself refuses, and each command what it cannot carry out. -/
theorem deskRequestsRejected : Obligations.DeskRequestsRejected := by
  intro data rest s hd s'
  constructor
  · intro why
    have refused : deskRefused s data = true ∧ dealDesk data s' = rejectDesk s' := by
      cases climate : s.overrides.climate with
      | standby =>
        have standby : s'.overrides.climate = .standby := climate
        exact ⟨by rw [deskRefused, climate]; rfl, dealDesk_standby standby⟩
      | active =>
        have active : s'.overrides.climate = .active := climate
        rw [deskRefused, climate]
        rcases why with standby | rfl | ⟨a, more, rfl, ha⟩ | rfl | rfl
        · exact absurd (climate.symm.trans standby) (by decide)
        · exact ⟨rfl, dealDesk_unknown active rfl⟩
        · rw [deskAction_unknown ha]
          exact ⟨rfl, dealDesk_unknown active (deskAction_unknown ha)⟩
        · exact ⟨rfl, dealDesk_short active (.inl rfl)⟩
        · exact ⟨rfl, dealDesk_short active (.inr rfl)⟩
    obtain ⟨mine, rejected⟩ := refused
    show takeDesk _ s = _
    rw [takeDesk_mine hd mine]
    exact congrArg _ rejected
  · intro hc
    have active : (deskTaken s rest).overrides.climate = .active := hc
    refine ⟨?_, ?_, ?_⟩
    · rintro p more rfl bad
      have unfit : ¬(p.toNat < 8 ∧ (presetCfg s.tables p.toNat).valid = true) := by
        rintro ⟨small, valid⟩
        rcases bad with large | invalid
        · omega
        · exact absurd (valid.symm.trans invalid) (by decide)
      show takeDesk _ s = _
      rw [takeDesk_mine hd (by rfl), dealDesk_push active, doPush]
      exact congrArg _ (if_neg unfit)
    · rintro more rfl hempty
      show takeDesk _ s = _
      rw [takeDesk_mine hd (by rfl), dealDesk_pop active, doPop, show (deskTaken s rest).overrides.entries = [] from hempty]
      rfl
    · rintro p more rfl absent
      have notIn : ¬ inStack s.overrides.entries p.toNat = true := by
        rw [inStack_iff]
        rintro ⟨e, he, same⟩
        exact absent e he same
      show takeDesk _ s = _
      rw [takeDesk_mine hd (by rfl), dealDesk_remove active, doRemove]
      exact congrArg _ (if_neg notIn)

/-! ### Lifetimes and the effective override -/

/-- The running maximum is at least where it starts and at least every value. -/
theorem le_foldl_max {α : Type} (f : α → Nat) (xs : List α) (m : Nat) :
    m ≤ xs.foldl (fun m x => max m (f x)) m ∧ ∀ x ∈ xs, f x ≤ xs.foldl (fun m x => max m (f x)) m := by
  induction xs generalizing m with
  | nil => exact ⟨Nat.le_refl _, fun x hx => nomatch hx⟩
  | cons y ys ih =>
    obtain ⟨start, each⟩ := ih (max m (f y))
    refine ⟨Nat.le_trans (Nat.le_max_left _ _) start, fun x hx => ?_⟩
    rcases List.mem_cons.mp hx with rfl | hx
    · exact Nat.le_trans (Nat.le_max_right _ _) start
    · exact each x hx

/-- The running maximum is where it starts or one of the values. -/
theorem foldl_max_attained {α : Type} (f : α → Nat) (xs : List α) (m : Nat) :
    xs.foldl (fun m x => max m (f x)) m = m ∨ ∃ x ∈ xs, xs.foldl (fun m x => max m (f x)) m = f x := by
  induction xs generalizing m with
  | nil => exact .inl rfl
  | cons y ys ih =>
    rcases ih (max m (f y)) with start | ⟨x, hx, same⟩
    · rcases Nat.le_total (f y) m with h | h
      · exact .inl (start.trans (Nat.max_eq_left h))
      · exact .inr ⟨y, List.mem_cons_self, start.trans (Nat.max_eq_right h)⟩
    · exact .inr ⟨x, List.mem_cons_of_mem _ hx, same⟩

section
variable (t : Tables)

/-- The screen floor is the running maximum over the stack (R158). -/
theorem screenFloorOf_eq (es : List StackEntry) :
    screenFloorOf t es = es.foldl (fun m e => max m (presetCfg t e.preset).screenFloor) 0 := rfl

theorem le_screenFloorOf {es : List StackEntry} {e : StackEntry} (he : e ∈ es) :
    (presetCfg t e.preset).screenFloor ≤ screenFloorOf t es := by
  have each := (le_foldl_max (fun e : StackEntry => (presetCfg t e.preset).screenFloor) es 0).2 e he
  rw [screenFloorOf_eq]
  exact each

theorem screenFloorOf_attained (top : StackEntry) (es : List StackEntry) :
    ∃ e ∈ top :: es, screenFloorOf t (top :: es) = (presetCfg t e.preset).screenFloor := by
  rcases foldl_max_attained (fun e => (presetCfg t e.preset).screenFloor) (top :: es) 0 with zero | attained
  · have least := le_screenFloorOf t (List.mem_cons_self : top ∈ top :: es)
    rw [screenFloorOf_eq, zero] at least
    exact ⟨top, List.mem_cons_self, (screenFloorOf_eq t _).trans (zero.trans (Nat.le_zero.mp least).symm)⟩
  · exact attained

end

/-- Settles O51: the lapse of the entry found, and the screen floor as a maximum that an entry attains. -/
theorem lifetimesAndEffectiveOverride : Obligations.LifetimesAndEffectiveOverride := by
  refine ⟨?_, fun t => rfl, ?_⟩
  · intro p d e s found running
    show onExpiry (entryTimer s p) (lapse p) s = _
    rw [entryTimer, found]
    show onExpiry e.lifetime (lapse p) s = _
    rw [running]
    rfl
  · intro t top es o c
    have floor : o.screenFloor = screenFloorOf t (top :: es) := rfl
    rw [floor]
    exact ⟨rfl, rfl, rfl, rfl, rfl, rfl, rfl, fun e he => le_screenFloorOf t he, screenFloorOf_attained t top es⟩

end Sys2Proof.Machine
end

section
/-! PROOFS. Requests that are served, and the supply and budget unit (chapter 7): O42 to O44. -/

namespace Sys2Proof.Machine

-- One theorem at a time: a thread for each of them at once would not fit into the checker's memory bound.
set_option Elab.async false

/-! ### A request that is served -/

/-- A well-formed request that meets no switch, and no STORE that it would have to wait for, is served (R162). -/
theorem takeRequest_served {code : Nat} {serve : List Byte → State → State} {s : State} {data : List Byte}
    {rest : List Captured} (hcaptured : s.mgmt.captured = .request data :: rest) (hcode : u8 data 0 = code)
    (formed : wellFormedRequest data = true) (noSwitch : s.mgmt.switch = none)
    (noStore : s.mgmt.store = none ∨ isRead code = true) :
    takeRequest code serve s = .next (serve data (dropCaptured rest s)) := by
  have free : busyFor s code = false := noStore.elim (busyFor_of_free s code noSwitch) (busyFor_read s code noSwitch)
  rw [takeRequest, hcaptured]
  dsimp only
  rw [if_pos ⟨hcode, formed⟩, if_neg (by rw [free]; decide)]

/-! ### The line drops -/

/-- The line is up: ON_LINE, HELD or RESUMING (7.2). -/
def lineIsUp (x : SupplyState) : Prop := x = .onLine ∨ x = .held ∨ x = .resuming

section
variable {s : State}

theorem poleDown_iff : poleDown s = true ↔
    (s.read (globals s.tables).poleSlot).2 = .good ∧ (s.read (globals s.tables).poleSlot).1 = 0 := by
  simp only [poleDown, Bool.and_eq_true, beq_iff_eq, decide_eq_true_eq]

theorem lineDrops_up (h : lineIsUp s.supply.state) :
    lineDrops s = if s.supply.state = .onLine ∧ poleDown s = true then enterOffWire s else enterBreak s := by
  unfold lineDrops
  rcases h with h | h | h <;> rw [h] <;> simp

theorem lineDrops_breaking (h : s.supply.state = .breaking) :
    lineDrops s = s.setSupply { s.supply with resumeDelay := none } := by
  rw [lineDrops, h]

theorem lineDrops_offWire (h : s.supply.state = .offWire) : lineDrops s = s := by
  rw [lineDrops, h]

/-- The state once a line sample is kept (7.1). -/
def sampled (v : Int) (s : State) : State := s.setSupply { s.supply with lastLine := some (lineSample v) }

section
variable {v : Int}

theorem takeLineWrite_up (h : lineIsUp s.supply.state) :
    takeLineWrite v s = if v < (globals s.tables).breakLevel then lineDrops (sampled v s) else sampled v s := by
  have up : lineIsUp (sampled v s).supply.state := h
  unfold takeLineWrite
  rw [← sampled]
  dsimp only
  rcases up with up | up | up <;> rw [up]

theorem takeLineWrite_breaking (h : s.supply.state = .breaking) : takeLineWrite v s = confirmLine v (sampled v s) := by
  have breaking : (sampled v s).supply.state = .breaking := h
  unfold takeLineWrite
  rw [← sampled]
  dsimp only
  rw [breaking]

theorem takeLineWrite_offWire (h : s.supply.state = .offWire) : takeLineWrite v s = sampled v s := by
  have offWire : (sampled v s).supply.state = .offWire := h
  unfold takeLineWrite
  rw [← sampled]
  dsimp only
  rw [offWire]

/-- The resume delay runs on from the sample that started it, while samples confirm the line (R119). -/
theorem confirmLine_eq : confirmLine v s = s.setSupply { s.supply with
    resumeDelay := if v < (globals s.tables).resumeLevel then none
      else some (s.supply.resumeDelay.getD (s.now + (globals s.tables).resumeDelay)) } := by
  unfold confirmLine
  cases s.supply.resumeDelay <;> rfl

end

end

/-- Settles O42: the notice is dropped, and sample or leave act by the supply state. -/
theorem lineNoticesMoveSupply : Obligations.LineNoticesMoveSupply := by
  intro i v w m st q rest s g pole dropped lineUp
  have drops : ∀ u : Supply, u.state = s.supply.state → lineUp → lineDrops { s with supply := u } = dropped u := by
    intro u hu up
    rw [lineDrops_up (hu ▸ up)]
    simp only [poleDown_iff]
    rfl
  constructor
  · intro hn u
    have ran : exec .lineWriteNotice s = .next (takeLineWrite v (dropSupplyNotice rest s)) := by
      simp only [exec, execLineWriteNotice, hn]
    rw [ran]
    refine ⟨fun up low => ?_, ?_, fun breaking => ?_⟩
    · rw [takeLineWrite_up (s := dropSupplyNotice rest s) up]
      exact congrArg _ ((if_pos low).trans (drops u rfl up))
    · rintro (⟨up, high⟩ | offWire)
      · rw [takeLineWrite_up (s := dropSupplyNotice rest s) up]
        exact congrArg _ (if_neg (Int.not_lt.mpr high))
      · rw [takeLineWrite_offWire (s := dropSupplyNotice rest s) offWire]
        rfl
    · rw [takeLineWrite_breaking (s := dropSupplyNotice rest s) breaking]
      exact congrArg _ confirmLine_eq
  · intro hn u
    have ran : exec .lineLeaveNotice s = .next (lineDrops (dropSupplyNotice rest s)) := by
      simp only [exec, execLineLeaveNotice, hn]
    rw [ran]
    refine ⟨fun up => congrArg _ (drops u rfl up), fun breaking => ?_, fun offWire => ?_⟩
    · rw [lineDrops_breaking (s := dropSupplyNotice rest s) breaking]
      rfl
    · rw [lineDrops_offWire (s := dropSupplyNotice rest s) offWire]
      rfl

section
variable {s : State}

theorem takePoleChange_down (h : s.supply.state ≠ .offWire) : takePoleChange 0 s = enterOffWire s := by
  unfold takePoleChange
  dsimp only
  rw [if_pos rfl]
  cases hst : s.supply.state with
  | offWire => exact absurd hst h
  | onLine | breaking | held | resuming => rfl

theorem takePoleChange_stays {v : Int}
    (h : (v = 0 ∧ s.supply.state = .offWire) ∨ (v ≠ 0 ∧ s.supply.state ≠ .offWire)) : takePoleChange v s = s := by
  unfold takePoleChange
  dsimp only
  rcases h with ⟨down, offWire⟩ | ⟨up, other⟩
  · rw [if_pos down, offWire]
  · rw [if_neg up]
    cases hst : s.supply.state with
    | offWire => exact absurd hst other
    | onLine | breaking | held | resuming => rfl

theorem takePoleChange_up {v : Int} (up : v ≠ 0) (h : s.supply.state = .offWire) : takePoleChange v s =
    if (s.read (globals s.tables).lineSlot).2 = .good ∧
        (globals s.tables).resumeLevel ≤ (s.read (globals s.tables).lineSlot).1 then enterResuming s
    else enterBreak s := by
  unfold takePoleChange
  dsimp only
  rw [if_neg up, h]

end

/-- Settles O43: poles down, poles up from OFF_WIRE, and the rest. -/
theorem poleChangeMovesSupply : Obligations.PoleChangeMovesSupply := by
  intro i v rest s hn g line u
  have ran : exec .poleChangeNotice s = .next (takePoleChange v (dropSupplyNotice rest s)) := by
    simp only [exec, execPoleChangeNotice, hn]
  rw [ran]
  refine ⟨?_, fun stays => ?_, fun up offWire => ?_⟩
  · rintro rfl other
    rw [takePoleChange_down (s := dropSupplyNotice rest s) other]
    rfl
  · rw [takePoleChange_stays (s := dropSupplyNotice rest s) stays]
    rfl
  · rw [takePoleChange_up (s := dropSupplyNotice rest s) up offWire]
    exact ⟨fun line => congrArg _ (if_pos line), fun line => congrArg _ (if_neg line)⟩

end Sys2Proof.Machine
end

section
/-! PROOFS. The allocation and what makes one (chapter 7): O44. -/

namespace Sys2Proof.Machine

-- One theorem at a time: a thread for each of them at once would not fit into the checker's memory bound.
set_option Elab.async false

theorem validOfClass_iff (t : Tables) (z : Nat) (c : ZoneClass) :
    validOfClass t z c = true ↔ (zoneCfg t z).valid = true ∧ (zoneCfg t z).cls = c := by
  simp only [validOfClass, Bool.and_eq_true, beq_iff_eq]

/-- The state with what an allocation forms, before it publishes (R130). -/
def formedSupply (ramp : Bool) (s : State) : State :=
  s.setSupply { s.supply with
    state := (allocated ramp s).state, target := (allocated ramp s).target, surplus := (allocated ramp s).surplus
    ceiling := (allocated ramp s).ceiling }

/-- A publication sent (R134). -/
def publish (p : Publication) (s : State) : State :=
  { s with
    supply := { s.supply with lastPub := p }
    composer := { s.composer with publications := s.composer.publications ++ [p] } }

theorem publish_eq (p : Publication) (x : State) :
    (x.setSupply { x.supply with lastPub := p }).setComposer
      { x.composer with publications := x.composer.publications ++ [p] } = publish p x := rfl

section
variable (ramp : Bool) (s : State) {a : Allotment}
  (ha : allot (allocated ramp s).ceiling (allocated ramp s).surplus (storedRequests s) = a)
include ha

theorem allocated_publication : (allocated ramp s).publication = publicationOf s.tables (allocated ramp s).state
    (allocated ramp s).ceiling (allocated ramp s).surplus (storedRequests s) a := by
  rw [← ha]
  rfl

/-- An allocation forms the unit's values, flags a short class, and publishes (R130). -/
theorem allocate_eq : allocate ramp s = publish (allocated ramp s).publication
    (raiseWhen (a.shortClass != .none) .budgetShort (formedSupply ramp s)) := by
  have short : (allocated ramp s).publication.shortClass = a.shortClass := by
    rw [allocated_publication ramp s ha]
    rfl
  rw [← publish_eq, ← short]
  unfold allocate formedSupply
  rfl

end

theorem zoneShareOf_eq (t : Tables) (q : Requests) (a : Allotment) (z : Nat) : zoneShareOf t q a z =
    (let cab := (zoneCfg t z).cls = .cab
     let asked := if cab then q.cabs.getD z 0 else q.saloons.getD z 0
     let given := if cab then a.cabs.getD z 0 else a.saloons.getD z 0
     { cls := (zoneCfg t z).cls, request := asked, grant := given, limited := decide (given < asked)
       storageRequest := q.storage.getD z 0, storageGrant := a.storage.getD z 0 }) := by
  simp only [zoneShareOf, beq_iff_eq]

theorem serveResume_held {data : List Byte} {s : State} (h : s.supply.state = .held) :
    serveResume data s = reply 14 .ok (enterResuming s) := by
  rw [serveResume, h]

theorem serveResume_other {data : List Byte} {s : State} (h : s.supply.state ≠ .held) :
    serveResume data s = reply 14 .badState s := by
  unfold serveResume
  cases hst : s.supply.state with
  | held => exact absurd hst h
  | onLine | breaking | resuming | offWire => rfl

section
variable {s : State}

theorem resumeDelayEnds_auto (h : (globals s.tables).autoResume = true) : resumeDelayEnds s = enterResuming s := by
  rw [resumeDelayEnds, if_pos h]

theorem resumeDelayEnds_manual (h : (globals s.tables).autoResume = false) : resumeDelayEnds s = enterHeld s := by
  rw [resumeDelayEnds, if_neg (by rw [h]; decide)]

/-- The end of a long break, its timer stopped and its flag set: OFF_WIRE with the pole down (R121, R124). -/
theorem longBreakEnds_eq {t : State} (ht : raise .longBreak (s.setSupply { s.supply with longBreak := none }) = t) :
    longBreakEnds s = if (t.read (globals t.tables).poleSlot).2 = .good ∧ (t.read (globals t.tables).poleSlot).1 = 0 then
      enterOffWire t else t := by
  rw [longBreakEnds, ht]
  simp only [poleDown_iff]

theorem resumeDelayExpiry_eq {d : Nat} (h : s.supply.resumeDelay = some d) :
    exec .resumeDelayExpiry s = .next (resumeDelayEnds (s.advanceTo d)) := by
  show onExpiry s.supply.resumeDelay resumeDelayEnds s = _
  rw [h]
  rfl

theorem longBreakExpiry_eq {d : Nat} (h : s.supply.longBreak = some d) :
    exec .longBreakExpiry s = .next (longBreakEnds (s.advanceTo d)) := by
  show onExpiry s.supply.longBreak longBreakEnds s = _
  rw [h]
  rfl

theorem budgetTimerExpiry_eq {d : Nat} (h : s.supply.budget = some d) :
    exec .budgetTimerExpiry s = .next (budgetTick (s.advanceTo d)) := by
  show onExpiry s.supply.budget budgetTick s = _
  rw [h]
  rfl

end

/-- Settles O44: the allocation's parts are the model's own, and each command leads to one. -/
theorem supplyTimersAndResume : Obligations.SupplyTimersAndResume := by
  refine ⟨?requests, fun _ _ _ => rfl, ?allocation, ?commands⟩
  case requests =>
    intro s ofClass
    simp only [storedRequests, validOfClass_iff]
    rfl
  case allocation =>
    intro ramp s g st regen aux surplus line target ceiling reached q a side publication formed published
    have allotted : allot (allocated ramp s).ceiling (allocated ramp s).surplus (storedRequests s) = a := rfl
    clear_value a
    have hpublication : (allocated ramp s).publication = publication := by
      rw [allocated_publication ramp s allotted]
      show publicationOf s.tables reached ceiling surplus q a = publication
      simp only [publicationOf, funext (zoneShareOf_eq s.tables q a)]
      rfl
    have hformed : formedSupply ramp s = formed := rfl
    rw [allocate_eq ramp s allotted, hpublication, hformed]
    constructor
    · intro served
      rw [served]
      rfl
    · intro short
      rw [bne_iff_ne.mpr short]
      rfl
  case commands =>
    intro d more rest s g at' resuming
    refine ⟨fun hd => ⟨fun auto => ?_, fun manual => ?_⟩, fun hd => ?_, fun hd => ?_, fun hc hw hs => ?_⟩
    · rw [resumeDelayExpiry_eq hd, resumeDelayEnds_auto (s := s.advanceTo d) auto, enterResuming]
      rfl
    · rw [resumeDelayExpiry_eq hd, resumeDelayEnds_manual (s := s.advanceTo d) manual, enterHeld]
      rfl
    · intro pole lapsed
      have ended : raise .longBreak ((s.advanceTo d).setSupply { (s.advanceTo d).supply with longBreak := none }) = lapsed :=
        rfl
      rw [longBreakExpiry_eq hd, longBreakEnds_eq ended, enterOffWire]
      rfl
    · rw [budgetTimerExpiry_eq hd, budgetTick]
      rfl
    · intro s'
      have ran : exec .resume s = .next (serveResume (14 :: more) s') :=
        takeRequest_served hc rfl rfl hw (.inl hs)
      rw [ran]
      exact ⟨fun held => congrArg _ (serveResume_held (s := s') held),
        fun other => congrArg _ (serveResume_other (s := s') other)⟩

end Sys2Proof.Machine
end

section
/-! PROOFS. Requests of the management unit (chapter 10): what is well formed and what is turned away (O60), loading (O53,
O54), outputs and periods (O57), counters and flags (O58). -/

namespace Sys2Proof.Machine

-- One theorem at a time: a thread for each of them at once would not fit into the checker's memory bound.
set_option Elab.async false

/-! ### Well-formed requests -/

/-- Each request code with its least length (R177). -/
def requestLengths : List (Nat × Nat) :=
  [(1, 4), (2, 4), (3, 4), (4, 2), (5, 1), (6, 2), (7, 4), (8, 2), (9, 5), (10, 4), (11, 4), (12, 4), (13, 2), (14, 1), (15, 1)]

theorem code_lt_of_mem {c n : Nat} (h : (c, n) ∈ requestLengths) : c < 16 := by
  simp only [requestLengths, List.mem_cons, Prod.mk.injEq, List.not_mem_nil, or_false] at h
  omega

theorem requestLength_iff (c n : Nat) : requestLength c = some n ↔ (c, n) ∈ requestLengths := by
  match c with
  | 0 | 1 | 2 | 3 | 4 | 5 | 6 | 7 | 8 | 9 | 10 | 11 | 12 | 13 | 14 | 15 =>
    simp [requestLength, requestLengths, eq_comm]
  | k + 16 =>
    constructor
    · intro absent
      exact nomatch absent
    · intro listed
      exact absurd (code_lt_of_mem listed) (by omega)

theorem wellFormedRequest_of {c : Byte} {more : List Byte} {n : Nat} (h : requestLength c.toNat = some n)
    (hn : n ≤ (c :: more).length) : wellFormedRequest (c :: more) = true := by
  rw [wellFormedRequest, h]
  exact decide_eq_true hn

/-- A request is well formed by its first byte's code and its length alone (R162, R177). -/
theorem wellFormedRequest_iff (data : List Byte) : wellFormedRequest data = true ↔
    ∃ c n, (c, n) ∈ requestLengths ∧ data.head? = some (BitVec.ofNat 8 c) ∧ n ≤ data.length := by
  cases data with
  | nil => simp [wellFormedRequest]
  | cons b more =>
    constructor
    · intro formed
      cases hn : requestLength b.toNat with
      | none =>
        simp only [wellFormedRequest, hn] at formed
        exact absurd formed (by decide)
      | some n =>
        simp only [wellFormedRequest, hn, decide_eq_true_eq] at formed
        exact ⟨b.toNat, n, (requestLength_iff _ _).mp hn, by simp, formed⟩
    · rintro ⟨c, n, listed, first, long⟩
      have code : b.toNat = c := by
        have small := code_lt_of_mem listed
        rw [List.head?_cons, Option.some.injEq] at first
        rw [first, BitVec.toNat_ofNat]
        omega
      exact wellFormedRequest_of ((requestLength_iff _ _).mpr (code.symm ▸ listed)) long

/-! ### Turned away -/

section
variable {code : Nat} {serve : List Byte → State → State} {s : State} {data : List Byte} {rest : List Captured}
  (hcaptured : s.mgmt.captured = .request data :: rest) (hcode : u8 data 0 = code) (formed : wellFormedRequest data = true)
  (busy : busyFor s code = true)
include hcaptured hcode formed busy

theorem takeRequest_turnedAway : takeRequest code serve s = .next (turnAway code data (dropCaptured rest s)) := by
  rw [takeRequest, hcaptured]
  dsimp only
  rw [if_pos ⟨hcode, formed⟩, if_pos busy]

theorem takeRequest_busy (plain : code ≠ 1 ∨ newMbPending s = false) :
    takeRequest code serve s = .next (reply code .busy (dropCaptured rest s)) := by
  rw [takeRequest_turnedAway hcaptured hcode formed busy, turnAway_eq_reply code data (dropCaptured rest s) plain]

end

/-- The command that takes each request code. -/
def requestCommands : List (Instr × Nat) :=
  [(.readRecord, 1), (.readState, 2), (.loadBegin, 3), (.activate, 4), (.abortLoad, 5), (.store, 6), (.forceOutput, 7),
    (.releaseOutput, 8), (.setFramePeriod, 9), (.reportEnable, 10), (.reportDisable, 11), (.clearEvents, 12),
    (.clearCounters, 13), (.resume, 14), (.reset, 15)]

theorem exec_requestCommand {c : Instr} {n : Nat} (h : (c, n) ∈ requestCommands) :
    ∃ serve, ∀ s, exec c s = takeRequest n serve s := by
  simp only [requestCommands, List.mem_cons, Prod.mk.injEq, List.not_mem_nil, or_false] at h
  rcases h with ⟨rfl, rfl⟩ | ⟨rfl, rfl⟩ | ⟨rfl, rfl⟩ | ⟨rfl, rfl⟩ | ⟨rfl, rfl⟩ | ⟨rfl, rfl⟩ | ⟨rfl, rfl⟩ | ⟨rfl, rfl⟩ |
    ⟨rfl, rfl⟩ | ⟨rfl, rfl⟩ | ⟨rfl, rfl⟩ | ⟨rfl, rfl⟩ | ⟨rfl, rfl⟩ | ⟨rfl, rfl⟩ | ⟨rfl, rfl⟩
  all_goals exact ⟨_, fun _ => rfl⟩

theorem newMbPending_eq_false {s : State}
    (h : ∀ tm lost, s.mgmt.switch ≠ some { kind := .newMb, timer := tm, replyLost := lost }) : newMbPending s = false := by
  unfold newMbPending
  cases hw : s.mgmt.switch with
  | none => rfl
  | some w =>
    obtain ⟨kind, tm, lost⟩ := w
    cases kind with
    | reset => rfl
    | newMb => exact absurd hw (h tm lost)

theorem namedRecordBytes_named {data : List Byte} {s : State} {t : TableId} (ht : TableId.ofNumber (u8 data 1) = some t)
    (hi : u8 data 2 < t.count) (ho : u8 data 3 < t.size) :
    namedRecordBytes data s = recordBytes (record s.tables t (u8 data 2)) (u8 data 3) := by
  rw [namedRecordBytes, ht]
  exact if_pos ⟨hi, ho⟩

theorem namedRecordBytes_none {data : List Byte} {s : State}
    (h : ∀ t, TableId.ofNumber (u8 data 1) = some t → t.count ≤ u8 data 2 ∨ t.size ≤ u8 data 3) :
    namedRecordBytes data s = [] := by
  unfold namedRecordBytes
  cases ht : TableId.ofNumber (u8 data 1) with
  | none => rfl
  | some t =>
    have refused := h t ht
    exact if_neg (by omega)

/-- Settles O60: by the table of lengths, and BUSY before any request is served. -/
theorem requestsTurnedAway : Obligations.RequestsTurnedAway := by
  refine ⟨wellFormedRequest_iff, ?_⟩
  intro data rest s hcaptured s'
  refine ⟨?malformed, ?wellFormed, ?newMb⟩
  case malformed =>
    intro malformed noSwitch noStore
    have status : malformedStatus s data = .badRequest := by
      rw [malformedStatus, busyFor_of_free s _ noSwitch noStore, Bool.false_and]
      rfl
    have ran : exec .unknownRequest s = .next (reply (u8 data 0) (malformedStatus s data) (dropCaptured rest s)) := by
      simp only [exec, execUnknownRequest, hcaptured, malformed]
      rfl
    rw [ran, status]
    rfl
  case wellFormed =>
    intro c n listed hcode formed why notNewMb
    obtain ⟨serve, ran⟩ := exec_requestCommand listed
    have busy : busyFor s n = true := by
      rcases why with switching | ⟨storing, large⟩
      · exact busyFor_of_switch s n switching
      · have notRead : isRead n = false := by
          simp only [isRead, Bool.or_eq_false_iff, beq_eq_false_iff_ne]
          omega
        rw [busyFor, storing, notRead, Bool.not_false, Bool.and_true, Bool.or_true]
    have plain : n ≠ 1 ∨ newMbPending s = false := by
      by_cases first : n = 1
      · exact .inr (newMbPending_eq_false (notNewMb first))
      · exact .inl first
    rw [ran]
    exact takeRequest_busy hcaptured hcode formed busy plain
  case newMb =>
    intro tm lost hcode formed pending
    have busy : busyFor s 1 = true := busyFor_of_switch s 1 (by rw [pending]; rfl)
    have newMb : newMbPending s' = true := by
      show s.mgmt.switch.any _ = true
      rw [pending]
      rfl
    have ran : exec .readRecord s = .next (replyWith 1 .busy (namedRecordBytes data s') s') := by
      rw [← turnAway_readRecord data s' newMb]
      exact takeRequest_turnedAway hcaptured hcode formed busy
    rw [ran]
    constructor
    · intro t ht hi ho
      rw [namedRecordBytes_named ht hi ho]
      rfl
    · intro refused
      rw [namedRecordBytes_none refused]
      rfl

/-! ### Loading -/

section
variable {s : State} {data : List Byte}

theorem serveLoadBegin_table {k : TableId} (load : s.mgmt.load ≠ .loading) (hk : TableId.ofNumber (u8 data 1) = some k) :
    serveLoadBegin data s = if 1 ≤ u8 data 3 ∧ u8 data 2 + u8 data 3 ≤ k.count then
        reply 3 .ok (beginLoad { table := k, first := u8 data 2, count := u8 data 3 } s)
      else reply 3 .badIndex s := by
  rw [serveLoadBegin, if_neg load, hk]

theorem serveLoadBegin_noTable (load : s.mgmt.load ≠ .loading) (hk : TableId.ofNumber (u8 data 1) = none) :
    serveLoadBegin data s = reply 3 .badTable s := by
  rw [serveLoadBegin, if_neg load, hk]

end

/-- Settles O53: LOAD_BEGIN by its checks in order, and ABORT_LOAD. -/
theorem loadBeginsAndAborts : Obligations.LoadBeginsAndAborts := by
  intro a b c more rest s noSwitch m' s'
  constructor
  · intro hcaptured
    have formed : wellFormedRequest (3 :: a :: b :: c :: more) = true := wellFormedRequest_of (n := 4) rfl (by simp)
    have served : s.mgmt.store = none → exec .loadBegin s = .next (serveLoadBegin (3 :: a :: b :: c :: more) s') :=
      fun noStore => takeRequest_served hcaptured rfl formed noSwitch (.inl noStore)
    refine ⟨fun storing => ?_, fun noStore loading => ?_, fun noStore load => ⟨fun noTable => ?_, fun k hk => ⟨?_, ?_⟩⟩⟩
    · have busy : busyFor s 3 = true := by
        rw [busyFor, noSwitch, storing]
        rfl
      exact takeRequest_busy hcaptured rfl formed busy (.inl (by decide))
    · rw [served noStore, serveLoadBegin]
      exact congrArg _ (if_pos loading)
    · rw [served noStore, serveLoadBegin_noTable (s := s') (data := 3 :: a :: b :: c :: more) load noTable]
    · intro outside
      have refused : ¬(1 ≤ c.toNat ∧ b.toNat + c.toNat ≤ k.count) := by omega
      rw [served noStore, serveLoadBegin_table (s := s') (data := 3 :: a :: b :: c :: more) load hk]
      exact congrArg _ (if_neg refused)
    · intro some' inside
      rw [served noStore, serveLoadBegin_table (s := s') (data := 3 :: a :: b :: c :: more) load hk]
      exact congrArg _ (if_pos ⟨some', inside⟩)
  · intro hcaptured noStore
    exact takeRequest_served hcaptured rfl (wellFormedRequest_of (n := 1) rfl (by simp)) noSwitch (.inl noStore)

section
variable {s : State}

theorem takeLoadData_stray {data : List Byte} (h : s.mgmt.load ≠ .loading ∨ data = []) :
    takeLoadData data s = countStray s := by
  unfold takeLoadData
  cases hl : s.mgmt.load with
  | loading =>
    rcases h with other | rfl
    · exact absurd hl other
    · rfl
  | empty | complete | failed => rfl

theorem takeLoadData_loading {seg : Byte} {payload : List Byte} (h : s.mgmt.load = .loading) :
    takeLoadData (seg :: payload) s =
      if seg.toNat = s.mgmt.expected then appendPayload payload s else failLoad .sequence s := by
  unfold takeLoadData
  rw [h]

section
variable {payload buffer : List Byte} {total : Nat} (ht : loadTotal s = total)
  (hb : (s.mgmt.buffer ++ payload).take total = buffer)
include ht hb

/-- A segment that leaves the buffer short of the total (R166). -/
theorem appendPayload_partly (loading : s.mgmt.load = .loading) (h : buffer.length < total) :
    appendPayload payload s = s.setMgmt { s.mgmt with
      buffer := buffer, expected := (s.mgmt.expected + 1) % 256, load := s.mgmt.load
      timer := s.startTimer Config.loadTimerMs } := by
  subst ht hb
  unfold appendPayload
  dsimp only
  rw [decide_eq_false (Nat.not_le.mpr h), if_neg (Nat.not_le.mpr h), if_neg (Nat.not_le.mpr h), loading, raiseWhen_false]

/-- The segment that completes the load (R166). -/
theorem appendPayload_full (h : total ≤ buffer.length) :
    appendPayload payload s = raise .loadDone (s.setMgmt { s.mgmt with
      buffer := buffer, expected := (s.mgmt.expected + 1) % 256, load := .complete, timer := none }) := by
  subst ht hb
  unfold appendPayload
  dsimp only
  rw [decide_eq_true h, if_pos h, if_pos h]
  rfl

end

end

/-- Settles O54: stray, expected or out of sequence, and the timer's end. -/
theorem loadDataTaken : Obligations.LoadDataTaken := by
  intro data payload seg w rest s m' total buffer
  constructor
  · intro hcaptured
    have ran : exec .loadData s = .next (takeLoadData data (dropCaptured rest s)) := by
      simp only [exec, execLoadData, hcaptured]
    rw [ran]
    refine ⟨fun stray => congrArg _ (takeLoadData_stray (s := dropCaptured rest s) stray), ?_⟩
    rintro loading rfl window
    rw [takeLoadData_loading (s := dropCaptured rest s) loading]
    have ht : loadTotal (dropCaptured rest s) = total := by
      show (s.mgmt.window.map LoadWindow.total).getD 0 = total
      rw [window]
      rfl
    refine ⟨fun other => ?_, fun same partly => ?_, fun same full => ?_⟩
    · exact congrArg _ (if_neg other)
    · exact congrArg _ ((if_pos same).trans (appendPayload_partly ht rfl loading partly))
    · exact congrArg _ ((if_pos same).trans (appendPayload_full ht rfl full))
  · intro d running
    show onExpiry s.mgmt.timer (failLoad .timeout) s = _
    rw [running]
    rfl

end Sys2Proof.Machine
end

section
/-! PROOFS. Commands on outputs, frame periods, counters and flags (10.4, 10.5): O57 and O58. -/

namespace Sys2Proof.Machine

-- One theorem at a time: a thread for each of them at once would not fit into the checker's memory bound.
set_option Elab.async false

/-! ### Outputs and periods -/

section
variable {s : State} {data : List Byte}

theorem serveForceOutput_valid (hk : u8 data 1 < 48) (hv : (outputCfg s.tables (u8 data 1)).valid = true) :
    serveForceOutput data s = if u16 data 2 ≤ (outputCfg s.tables (u8 data 1)).kind.full then
      reply 7 .ok (forceOutput (u8 data 1) (u16 data 2) s) else reply 7 .badValue s := by
  rw [serveForceOutput, if_pos hk, if_pos hv]
  simp only [OutputKind.admits, decide_eq_true_eq]

theorem serveForceOutput_invalid (hk : u8 data 1 < 48) (hv : (outputCfg s.tables (u8 data 1)).valid = false) :
    serveForceOutput data s = reply 7 .badState s := by
  rw [serveForceOutput, if_pos hk, if_neg (by rw [hv]; decide)]

theorem serveForceOutput_outside (hk : 48 ≤ u8 data 1) : serveForceOutput data s = reply 7 .badIndex s := by
  rw [serveForceOutput, if_neg (Nat.not_lt.mpr hk)]

/-- A forced output's value and F request: 0 when FAILED or held off (R138 to R140, R144). -/
theorem forceOutput_eq (k v : Nat) : forceOutput k v s =
    (let off := (s.output k).failed = true ∨ (s.composer.copy.supply.cut = true ∧ (outputCfg s.tables k).conditioning = true)
     s.setOutput k
      { forced := some v
        failed := (s.output k).failed
        value := if off then 0 else (outputCfg s.tables k).fit v (s.composer.copy.outputs.getD k {}).grant
        fRequest := if off then 0 else (outputCfg s.tables k).power v }) := by
  simp only [forceOutput, forcedValue, fRequestOf, heldOff, Bool.or_eq_true, Bool.and_eq_true]
  rfl

theorem serveSetFramePeriod_outside (hk : 24 ≤ u8 data 1) : serveSetFramePeriod data s = reply 9 .badIndex s := by
  rw [serveSetFramePeriod, if_neg (Nat.not_lt.mpr hk)]

theorem serveSetFramePeriod_invalid (hk : u8 data 1 < 24) (hv : (frameCfg s.tables (u8 data 1)).valid = false) :
    serveSetFramePeriod data s = reply 9 .badState s := by
  rw [serveSetFramePeriod, if_pos hk, if_neg (by rw [hv]; decide)]

theorem serveSetFramePeriod_valid (hk : u8 data 1 < 24) (hv : (frameCfg s.tables (u8 data 1)).valid = true) :
    serveSetFramePeriod data s = if 1 ≤ u16 data 2 ∧ u16 data 2 ≤ 1000 then
      reply 9 .ok (setPeriod (u8 data 1) (u16 data 2) (u8 data 4 != 0) s) else reply 9 .badValue s := by
  rw [serveSetFramePeriod, if_pos hk, if_pos hv]

/-- A period set at once, or kept pending where the request's last byte is 0 (R149). -/
theorem setPeriod_eq (n period : Nat) (e : Byte) : setPeriod n period (e.toNat != 0) s = s.setSchedule n
    (if e = 0 then { s.schedule n with pendingPeriod := some period }
     else { s.schedule n with
       period := period, pendingPeriod := none, periodTimer := some (s.now + 10 * period) }) := by
  unfold setPeriod
  by_cases zero : e = 0
  · rw [if_pos zero, zero]
    rfl
  · have some' : (e.toNat != 0) = true := bne_iff_ne.mpr fun h => zero (BitVec.eq_of_toNat_eq h)
    rw [if_neg zero, some']
    rfl

end

/-- An output a release reaches: the named one, or every one with FFh, if it is forced (R139). -/
theorem releaseOutput_get {s : State} {a k : Nat} {l : OutputLive}
    (h : (releaseOutput a s).composer.outputs[k]? = some l) :
    l = if (a = 255 ∨ a = k) ∧ (s.output k).forced.isSome = true then
      { s.output k with forced := none, value := 0, fRequest := 0 } else s.output k := by
  have mapped : (releaseOutput a s).composer.outputs[k]? =
      (s.composer.outputs[k]?).map fun x => if a = 255 ∨ k = a then x.released else x := List.getElem?_mapIdx
  rw [mapped] at h
  obtain ⟨x, hx, rfl⟩ := Option.map_eq_some_iff.mp h
  have output : s.output k = x := by
    rw [State.output, List.getD_eq_getElem?_getD, hx]
    rfl
  rw [output, OutputLive.released]
  simp only [ite_both, eq_comm (a := a) (b := k)]

/-- Settles O57: each request by its checks in order, then by its effect. -/
theorem outputsAndPeriodsSet : Obligations.OutputsAndPeriodsSet := by
  intro a b c e more rest s noSwitch noStore s' v o
  refine ⟨fun hcaptured => ?_, fun hcaptured => ?_, fun hcaptured => ?_⟩
  · have ran : exec .forceOutput s = .next (serveForceOutput (7 :: a :: b :: c :: more) s') :=
      takeRequest_served hcaptured rfl (wellFormedRequest_of (n := 4) rfl (by simp)) noSwitch (.inl noStore)
    rw [ran]
    refine ⟨fun hk => ?_, fun hk hv => ?_, fun hk hv large => ?_, fun hk hv fits => ?_⟩
    · exact congrArg _ (serveForceOutput_outside (data := 7 :: a :: b :: c :: more) hk)
    · exact congrArg _ (serveForceOutput_invalid (s := s') (data := 7 :: a :: b :: c :: more) hk hv)
    · rw [serveForceOutput_valid (s := s') (data := 7 :: a :: b :: c :: more) hk hv]
      exact congrArg _ (if_neg (Nat.not_le.mpr large))
    · intro off
      rw [serveForceOutput_valid (s := s') (data := 7 :: a :: b :: c :: more) hk hv]
      refine congrArg _ ((if_pos fits).trans ?_)
      exact congrArg _ (forceOutput_eq _ _)
  · have ran : exec .releaseOutput s = .next (serveReleaseOutput (8 :: a :: more) s') :=
      takeRequest_served hcaptured rfl (wellFormedRequest_of (n := 2) rfl (by simp)) noSwitch (.inl noStore)
    rw [ran, serveReleaseOutput]
    constructor
    · intro hk notAll
      exact congrArg _ (if_neg (not_or.mpr ⟨Nat.not_lt.mpr hk, notAll⟩))
    · intro named
      exact ⟨releaseOutput a.toNat s', congrArg _ (if_pos named), rfl, fun k l h => releaseOutput_get (s := s') h⟩
  · have ran : exec .setFramePeriod s = .next (serveSetFramePeriod (9 :: a :: b :: c :: e :: more) s') :=
      takeRequest_served hcaptured rfl (wellFormedRequest_of (n := 5) rfl (by simp)) noSwitch (.inl noStore)
    rw [ran]
    refine ⟨fun hk => ?_, fun hk hv => ?_, fun hk hv outside => ?_, fun hk hv low high => ?_⟩
    · exact congrArg _ (serveSetFramePeriod_outside (data := 9 :: a :: b :: c :: e :: more) hk)
    · exact congrArg _ (serveSetFramePeriod_invalid (s := s') (data := 9 :: a :: b :: c :: e :: more) hk hv)
    · rw [serveSetFramePeriod_valid (s := s') (data := 9 :: a :: b :: c :: e :: more) hk hv]
      have refused : ¬(1 ≤ v ∧ v ≤ 1000) := by omega
      exact congrArg _ (if_neg refused)
    · rw [serveSetFramePeriod_valid (s := s') (data := 9 :: a :: b :: c :: e :: more) hk hv]
      refine congrArg _ ((if_pos ⟨low, high⟩).trans ?_)
      exact congrArg _ (setPeriod_eq _ _ _)

/-! ### Counters and flags -/

/-- A request's mask: its three bytes, lowest first, the bits above 21 dropped (R172, R177). -/
theorem flagMask_eq (n : Byte) (a b c : Byte) (more : List Byte) : flagMask (n :: a :: b :: c :: more) =
    a.setWidth 22 ||| (b.setWidth 22 <<< 8) ||| (c.setWidth 22 <<< 16) := by
  have low : a.toNat ||| b.toNat <<< 8 = b.toNat * 256 + a.toNat := by
    rw [Nat.or_comm, ← Nat.shiftLeft_add_eq_or_of_lt (b := a.toNat) a.isLt, Nat.shiftLeft_eq]
  have high : (b.toNat * 256 + a.toNat) ||| (c.toNat % 64) <<< 16 =
      (c.toNat % 64) * 65536 + (b.toNat * 256 + a.toNat) := by
    have ha := a.isLt
    have hb := b.isLt
    rw [Nat.or_comm, ← Nat.shiftLeft_add_eq_or_of_lt (by omega), Nat.shiftLeft_eq]
  have ha := a.isLt
  have hb := b.isLt
  have hc := c.isLt
  have top : c.toNat <<< 16 % 2 ^ 22 = (c.toNat % 64) <<< 16 := by
    rw [Nat.shiftLeft_eq, Nat.shiftLeft_eq]
    omega
  apply BitVec.eq_of_toNat_eq
  show (BitVec.ofNat 22 (a.toNat + 256 * b.toNat + 65536 * c.toNat)).toNat = _
  simp only [BitVec.toNat_ofNat, BitVec.toNat_or, BitVec.toNat_shiftLeft, BitVec.toNat_setWidth]
  rw [Nat.mod_eq_of_lt (a := a.toNat) (by omega), Nat.mod_eq_of_lt (a := b.toNat) (by omega),
    Nat.mod_eq_of_lt (a := c.toNat) (by omega), top, Nat.shiftLeft_eq b.toNat,
    Nat.mod_eq_of_lt (a := b.toNat * 2 ^ 8) (by omega), ← Nat.shiftLeft_eq, low, high]
  omega

/-- A dropped report counts on BP and does nothing else to the port (R12). -/
theorem reportPut_bp_of_dropped {s : State} {bp : Port} (h : bp.outcome .urgent .eventReport = .dropped) (w : BitVec 22) :
    (reportPut s bp w).1 = { bp with counters := (reportPut s bp w).1.counters } := by
  have first (v : BitVec 22) : bp.put .urgent (eventReport s v) =
      { bp with counters := { bp.counters with txDrop := satAdd bp.counters.txDrop 1 } } := Port.put_of_dropped h
  have again (v : BitVec 22) (c : Counters) : { bp with counters := c }.put .urgent (eventReport s v) =
      { bp with counters := { c with txDrop := satAdd c.txDrop 1 } } := Port.put_of_dropped (p := { bp with counters := c }) h
  simp only [reportPut, h, first]
  split
  · rfl
  · split
    · rw [again]
    · rfl

theorem reportPut_of_taken {s : State} {bp : Port} (h : bp.outcome .urgent .eventReport ≠ .dropped) (w : BitVec 22) :
    reportPut s bp w = (bp.put .urgent (eventReport s w), w) := by
  rcases reportPut_cases s bp w with ⟨-, e⟩ | ⟨dropped, -⟩
  · exact e
  · exact absurd dropped h

theorem reportWhen_of_taken {s : State} (h : s.bp.outcome .urgent .eventReport ≠ .dropped) :
    reportWhen true s = { s with bp := s.bp.put .urgent (eventReport s s.mgmt.flags) } := by
  simp only [reportWhen, ↓reduceIte, reportPut_of_taken h]

theorem Port.clearedWhen_eq (p : Port) (c : Bool) :
    p.clearedWhen c = if c = true then { p with counters := {} } else p := rfl

/-- Settles O58: counters by port, flags and enables by the mask, and the report that an enable puts. -/
theorem countersAndFlagsCleared : Obligations.CountersAndFlagsCleared := by
  intro a b c more rest s noSwitch noStore m' s' mask
  have hmask : ∀ n : Byte, flagMask (n :: a :: b :: c :: more) = mask := fun n => flagMask_eq n a b c more
  refine ⟨fun hcaptured => ?_, fun hcaptured => ?_, fun hcaptured => ?_, fun hcaptured => ?_⟩
  · have ran : exec .clearCounters s = .next (serveClearCounters (13 :: a :: more) s') :=
      takeRequest_served hcaptured rfl (wellFormedRequest_of (n := 2) rfl (by simp)) noSwitch (.inl noStore)
    rw [ran, serveClearCounters]
    constructor
    · intro large
      exact congrArg _ (if_neg (Nat.not_le.mpr large))
    · intro named
      refine congrArg _ ((if_pos named).trans ?_)
      have bp : s'.bp.clearedWhen (a.toNat == 0 || a.toNat == 2) =
          if a.toNat = 1 then s.bp else { s.bp with counters := {} } := by
        by_cases one : a.toNat = 1
        · rw [if_pos one, one]
          rfl
        · rw [if_neg one, Port.clearedWhen_eq, if_pos (by simp only [Bool.or_eq_true, beq_iff_eq]; omega)]
      have fp : s'.fp.clearedWhen (a.toNat == 1 || a.toNat == 2) =
          if a.toNat = 0 then s.fp else { s.fp with counters := {} } := by
        by_cases zero : a.toNat = 0
        · rw [if_pos zero, zero]
          rfl
        · rw [if_neg zero, Port.clearedWhen_eq, if_pos (by simp only [Bool.or_eq_true, beq_iff_eq]; omega)]
      rw [← bp, ← fp]
      rfl
  · have ran : exec .clearEvents s = .next (serveClearEvents (12 :: a :: b :: c :: more) s') :=
      takeRequest_served hcaptured rfl (wellFormedRequest_of (n := 4) rfl (by simp)) noSwitch (.inl noStore)
    rw [ran, serveClearEvents, hmask]
    rfl
  · have ran : exec .reportDisable s = .next (serveReportDisable (11 :: a :: b :: c :: more) s') :=
      takeRequest_served hcaptured rfl (wellFormedRequest_of (n := 4) rfl (by simp)) noSwitch (.inl noStore)
    rw [ran, serveReportDisable, hmask]
    rfl
  · intro on
    have ran : exec .reportEnable s = .next (serveReportEnable (10 :: a :: b :: c :: more) s') :=
      takeRequest_served hcaptured rfl (wellFormedRequest_of (n := 4) rfl (by simp)) noSwitch (.inl noStore)
    have served : serveReportEnable (10 :: a :: b :: c :: more) s' =
        reply 10 .ok (reportWhen (s.mgmt.flags &&& mask != 0) on) := by
      rw [serveReportEnable, hmask]
      rfl
    rw [ran, served]
    refine ⟨fun none => ?_, fun some' room => ?_, fun some' dropped => ?_⟩
    · rw [none]
      rfl
    · rw [bne_iff_ne.mpr some', reportWhen_of_taken (s := on) room]
      rfl
    · have flags : (reportPut on on.bp s.mgmt.flags).2 = s.mgmt.flags ||| Flag.txDrop.mask :=
        (reportPut_of_dropped (s := on) dropped _).1
      have bp := reportPut_bp_of_dropped (s := on) (bp := s.bp) dropped s.mgmt.flags
      rw [bne_iff_ne.mpr some']
      refine ⟨reportWhen true on, rfl, ?_, bp⟩
      rw [← flags]
      rfl

end Sys2Proof.Machine
end

section
/-! PROOFS. The image write (10.6) and the pending switch (10.4): O56 and O59. -/

namespace Sys2Proof.Machine

-- One theorem at a time: a thread for each of them at once would not fit into the checker's memory bound.
set_option Elab.async false

/-! ### The image write -/

/-- A new image keeps the accept codes and the tables of every group outside the mask (R174). -/
def Image.KeepsUnmasked (old : Image) (mask : BitVec 7) (im : Image) : Prop :=
  (∀ g, g < 7 → mask.getLsbD g = false → im.codes.getD g 0 = old.codes.getD g 0) ∧
  ∀ k : TableId, mask.getLsbD k.group.number = false → im.stored.get k = old.stored.get k

theorem getD_of_lt {α : Type} {xs : List α} {i : Nat} (h : i < xs.length) {d : α} : xs.getD i d = xs[i] :=
  (List.getElem_eq_getD d).symm

theorem getD_map_range {α : Type} (f : Nat → α) (d : α) {n i : Nat} (h : i < n) : ((List.range n).map f).getD i d = f i := by
  simp [List.getD, h]

section
variable (im : Image) (mask : BitVec 7) (live : Tables)

theorem imageWritten_code {g : Nat} (hg : g < 7) : (imageWritten im mask live).codes.getD g 0 =
    if mask.getLsbD g = true then 1 else im.codes.getD g 0 :=
  getD_map_range (fun g => if inMask mask g then 1 else im.codes.getD g 0) 0 hg

theorem imageWritten_stored (k : TableId) : (imageWritten im mask live).stored.get k =
    if mask.getLsbD k.group.number = true then live.get k else im.stored.get k := Tables.get_build _ k

theorem imageWritten_keeps : im.KeepsUnmasked mask (imageWritten im mask live) := by
  constructor
  · intro g hg out
    rw [imageWritten_code im mask live hg, if_neg (by rw [out]; decide)]
  · intro k out
    rw [imageWritten_stored, if_neg (by rw [out]; decide)]

theorem imageBroken_keeps (step : StoreStep) (free : Nat) :
    im.KeepsUnmasked mask (imageBroken im mask live step free) := by
  constructor
  · intro g hg out
    have code : (imageBroken im mask live step free).codes.getD g 0 = if mask.getLsbD g = true then
        brokenCode step (Config.codeWritten free g) (im.codes.getD g 0) else im.codes.getD g 0 :=
      getD_map_range (fun g => if inMask mask g then brokenCode step (Config.codeWritten free g) (im.codes.getD g 0)
        else im.codes.getD g 0) 0 hg
    rw [code, if_neg (by rw [out]; decide)]
  · intro k out
    have written : (Tables.build fun k => if inMask mask k.group.number then live.get k else im.stored.get k).get k =
        im.stored.get k := by
      rw [Tables.get_build]
      exact if_neg (by rw [inMask, out]; decide)
    cases step with
    | eraseSignature | clearCodes | writeTables => rfl
    | setCodes | writeSignature => exact written

end

section
variable {s : State} {w : StoreRun}

theorem storeEnds_done : storeEnds none w s = reply 6 .ok
    { s with image := imageWritten s.image w.mask s.tables, mgmt := { s.mgmt with store := none } } := rfl

theorem storeEnds_failed (step : StoreStep) : storeEnds (some step) w s = reply 6 .storeFault
    { s with
      image := imageBroken s.image w.mask s.tables step s.freeIndex, freeIndex := s.freeIndex + 1
      mgmt := { s.mgmt with store := none } } := rfl

theorem storeWriteEnd_eq (hw : s.mgmt.store = some w) (failed : Option StoreStep) :
    exec (.storeWriteEnd failed) s = .next (storeEnds (w.ending failed s) w s) := by
  simp only [exec, execStoreWriteEnd, hw]

theorem storeTimeout_eq (hw : s.mgmt.store = some w) {d : Nat} (hd : w.deadline = some d) :
    exec .storeTimeout s = .next (storeEnds (some (reachedStep s.freeIndex)) w (s.advanceTo d)) := by
  have deadline : storeDeadline s = some d := by
    rw [storeDeadline, hw]
    exact hd
  have ends : storeTimesOut (s.advanceTo d) = storeEnds (some (reachedStep s.freeIndex)) w (s.advanceTo d) := by
    rw [storeTimesOut, show (s.advanceTo d).mgmt.store = some w from hw]
    rfl
  show onExpiry (storeDeadline s) storeTimesOut s = _
  rw [deadline, ← ends]
  rfl

end

/-- Settles O56: STORE by its checks, and the three ways in which a write ends. -/
theorem storeWritesImage : Obligations.StoreWritesImage := by
  intro a more rest s s'
  constructor
  · intro hcaptured noSwitch noStore
    have ran : exec .store s = .next (serveStore (6 :: a :: more) s') :=
      takeRequest_served hcaptured rfl (wellFormedRequest_of (n := 2) rfl (by simp)) noSwitch (.inl noStore)
    rw [ran, serveStore]
    refine ⟨fun loading => congrArg _ (if_pos loading), fun load bad => ?_, fun load low high => ?_⟩
    · exact congrArg _ ((if_neg load).trans (if_pos bad))
    · have good : ¬(a.toNat = 0 ∨ 128 ≤ a.toNat) := by omega
      refine congrArg _ ((if_neg load).trans ((if_neg good).trans ?_))
      rw [← BitVec.ofNat_toNat]
      rfl
  · intro w hw late kept
    have isLate : w.late s.now = true ↔ late := StoreRun.late_iff w s.now
    refine ⟨fun inTime => ?_, fun failed broken => ?_, fun d hd => ?_⟩
    · have done : w.ending none s = none :=
        (StoreRun.ending_eq_none w none s).mpr ⟨rfl, Bool.eq_false_iff.mpr (mt isLate.mp inTime)⟩
      refine ⟨imageWritten s.image w.mask s.tables, ?_, rfl, imageWritten_keeps _ _ _, fun g hg masked => ?_,
        fun k masked => ?_⟩
      · rw [storeWriteEnd_eq hw, done, storeEnds_done]
      · rw [imageWritten_code _ _ _ hg, if_pos masked]
      · rw [imageWritten_stored, if_pos masked]
    · have ended : w.ending failed s ≠ none := by
        rw [Ne, StoreRun.ending_eq_none]
        rintro ⟨none, inTime⟩
        rcases broken with isL | some'
        · exact Bool.eq_false_iff.mp inTime (isLate.mpr isL)
        · exact some' none
      obtain ⟨step, hstep⟩ := Option.ne_none_iff_exists'.mp ended
      refine ⟨imageBroken s.image w.mask s.tables step s.freeIndex, ?_, rfl, imageBroken_keeps _ _ _ _ _⟩
      rw [storeWriteEnd_eq hw, hstep, storeEnds_failed]
    · refine ⟨imageBroken s.image w.mask s.tables (reachedStep s.freeIndex) s.freeIndex, ?_, rfl,
        imageBroken_keeps _ _ _ _ _⟩
      rw [storeTimeout_eq hw hd, storeEnds_failed]
      rfl

/-! ### The pending switch -/

/-- What a switch that is carried out makes of a state (R171). -/
def CarriedOut (k : SwitchKind) (x t : State) : Prop := match k with
  | .newMb => t = { x with
      classifier := { x.classifier with mb := BitVec.ofNat 11 (globals x.tables).managementBase }
      mgmt := { x.mgmt with switch := none } }
  | .reset => ∃ u, exec .powerOn x = .next u ∧
      (let v : State := { u with mgmt := { u.mgmt with cause := .command } }
       t = { v with bp := { urgent := [eventReport v v.mgmt.flags] } })

theorem carryOut_carriedOut (k : SwitchKind) (x : State) : CarriedOut k x (carryOut k x) := by
  cases k with
  | newMb => rfl
  | reset =>
    refine ⟨startPart .power x, rfl, ?_⟩
    show startPart .command x = _
    rw [startPart_eq, startPart_eq]
    rfl

section
variable {s : State} {w : PendingSwitch} (hw : s.mgmt.switch = some w)
include hw

theorem switchOnReply_eq : switchOnReply s = carryOut w.kind s := by
  rw [switchOnReply, hw]

theorem switchTimerEnds_lost (h : w.replyLost = true) : switchTimerEnds s = carryOut w.kind s := by
  rw [switchTimerEnds, hw]
  exact if_pos h

theorem switchTimerEnds_waits (h : w.replyLost = false) :
    switchTimerEnds s = s.setMgmt { s.mgmt with switch := some { w with timer := none } } := by
  rw [switchTimerEnds, hw]
  exact if_neg (by rw [h]; decide)

theorem switchOnBusOff_over (h : ∀ d, w.timer = some d → d ≤ s.now) : switchOnBusOff s = carryOut w.kind s := by
  rw [switchOnBusOff, hw]
  cases ht : w.timer with
  | none => simp only [ht]
  | some d =>
    simp only [ht]
    exact if_pos (h d ht)

theorem switchOnBusOff_waits {d : Nat} (ht : w.timer = some d) (h : s.now < d) :
    switchOnBusOff s = s.setMgmt { s.mgmt with switch := some { w with replyLost := true } } := by
  rw [switchOnBusOff, hw]
  simp only [ht]
  exact if_neg (Nat.not_le.mpr h)

end

/-- Settles O59: `replyThenSwitch` and `carryOut`, and the four commands that lead to them. -/
theorem pendingSwitchCarriedOut : Obligations.PendingSwitchCarriedOut := by
  unfold Obligations.PendingSwitchCarriedOut
  intro carriedOut
  have carried : ∀ k x, carriedOut k x (carryOut k x) := by
    intro k x
    cases k with
    | newMb => exact carryOut_carriedOut .newMb x
    | reset => exact carryOut_carriedOut .reset x
  refine ⟨fun code k s => rfl, ?requested, ?completion, ?timer, ?busOff⟩
  case requested =>
    intro more rest s hcaptured noSwitch noStore
    exact takeRequest_served hcaptured rfl (wellFormedRequest_of (n := 1) rfl (by simp)) noSwitch (.inl noStore)
  case completion =>
    intro o k tm lost s ho origin hw
    refine ⟨_, execTransmitComplete_of_offer (p := .bp) ho, ?_⟩
    have told : reportCompletion o.carried (s.setPort .bp (s.bp.sent o.cls)) =
        carryOut k (s.setPort .bp (s.bp.sent o.cls)) := by
      simp only [reportCompletion, origin]
      exact switchOnReply_eq (s := s.setPort .bp (s.bp.sent o.cls)) hw
    rw [← ErrorState.ofCount_eq]
    exact told ▸ carried k (s.setPort .bp (s.bp.sent o.cls))
  case timer =>
    intro k d lost s hw
    have timer : switchTimer s = some d := by
      rw [switchTimer, hw]
    have ran : exec .switchTimerExpiry s = .next (switchTimerEnds (s.advanceTo d)) := by
      show onExpiry (switchTimer s) switchTimerEnds s = _
      rw [timer]
      rfl
    refine ⟨_, ran, fun isLost => ?_, fun notLost => ?_⟩
    · rw [switchTimerEnds_lost (s := s.advanceTo d) hw isLost]
      exact carried k (s.advanceTo d)
    · rw [switchTimerEnds_waits (s := s.advanceTo d) hw notLost, notLost]
      rfl
  case busOff =>
    intro o k tm lost s ho limit hw off
    have ran : exec (.transmitError .bp) s = .next (switchOnBusOff off) :=
      (execTransmitError_of_offer (p := .bp) ho).trans (congrArg _ (transmitFails_bp limit))
    have pending : off.mgmt.switch = some { kind := k, timer := tm, replyLost := lost } := hw
    refine ⟨_, ran, fun isOver => ?_, fun d hd running => ?_⟩
    · rw [switchOnBusOff_over pending isOver]
      exact carried k off
    · rw [switchOnBusOff_waits pending hd running]
      rfl

end Sys2Proof.Machine
end

section
/-! PROOFS. Command frames (8.4): O48. -/

namespace Sys2Proof.Machine

-- One theorem at a time: a thread for each of them at once would not fit into the checker's memory bound.
set_option Elab.async false

/-! ### The content -/

theorem writeBytes_length (content : List Byte) (start : Nat) (bytes : List Byte) :
    (writeBytes content start bytes).length = content.length := by
  unfold writeBytes
  split
  · simp only [List.length_append, List.length_take, List.length_drop]
    omega
  · rfl

/-- Written byte by byte: the new bytes at their places, the old ones elsewhere (R145). -/
theorem writeBytes_eq {content : List Byte} {n : Nat} (hn : content.length = n) (start : Nat) (bytes : List Byte) :
    writeBytes content start bytes = if start + bytes.length ≤ n then
      (List.range n).map fun j =>
        if start ≤ j ∧ j < start + bytes.length then bytes.getD (j - start) 0 else content.getD j 0
    else content := by
  subst hn
  unfold writeBytes
  split
  case isFalse => rfl
  case isTrue fits =>
    apply List.ext_getElem?
    intro j
    rw [List.getElem?_map]
    by_cases inside : j < content.length
    · rw [List.getElem?_range inside, Option.map_some]
      by_cases before : j < start
      · rw [if_neg (by omega), List.append_assoc, List.getElem?_append_left (by simp only [List.length_take]; omega),
          List.getElem?_take_of_lt before, getD_of_lt inside, List.getElem?_eq_getElem inside]
      · by_cases within : j < start + bytes.length
        · rw [if_pos ⟨by omega, within⟩, List.getElem?_append_left (by simp only [List.length_append, List.length_take]; omega),
            List.getElem?_append_right (by simp only [List.length_take]; omega), List.length_take,
            Nat.min_eq_left (by omega), getD_of_lt (by omega), List.getElem?_eq_getElem (by omega)]
        · rw [if_neg (by omega), List.getElem?_append_right (by simp only [List.length_append, List.length_take]; omega),
            List.getElem?_drop, List.length_append, List.length_take, Nat.min_eq_left (by omega),
            getD_of_lt inside, ← List.getElem?_eq_getElem inside]
          congr 1
          omega
    · rw [List.getElem?_eq_none (by simp only [List.length_append, List.length_take, List.length_drop]; omega),
        List.getElem?_eq_none (by simp only [List.length_range]; omega)]
      rfl

/-- Two folds agree where their steps agree on what the first one's steps keep. -/
theorem foldl_congr_of_keeps {α β : Type} {P : α → Prop} {f g : α → β → α} (same : ∀ a b, P a → f a b = g a b)
    (keeps : ∀ a b, P a → P (f a b)) (bs : List β) {a : α} (ha : P a) : bs.foldl f a = bs.foldl g a ∧ P (bs.foldl f a) := by
  induction bs generalizing a with
  | nil => exact ⟨rfl, ha⟩
  | cons b bs ih =>
    rw [List.foldl_cons, List.foldl_cons, ← same a b ha]
    exact ih (keeps a b ha)

section
variable (s : State)

/-- The values of the STATUS items (R146). -/
def statusItems : List Int :=
  let copy := s.composer.copy
  let cabs := (List.range 8).find? fun z => (zoneCfg s.tables z).valid && (zoneCfg s.tables z).cls == .cab
  [s.regulator.climate.code, copy.supply.code, copy.ceiling, s.overrides.entries.length,
    (s.overrides.entries.head?.map (·.preset)).getD 255, (s.screen 0).effectiveLevel, (s.screen 1).effectiveLevel,
    copy.shortClass.code, (cabs.map fun z => (s.zone z).temp).getD 0, s.bp.err.code, s.fp.err.code]

theorem cabTemp_eq : cabTemp s =
    (((List.range 8).find? fun z => validOfClass s.tables z .cab).map fun z => (s.zone z).temp).getD 0 := by
  unfold cabTemp firstNamed
  cases (List.range 8).find? fun z => validOfClass s.tables z .cab <;> rfl

theorem statusItem_eq (i : Nat) : statusItem s i = (statusItems s).getD i 0 := by
  match i with
  | 4 => cases he : s.overrides.entries <;> simp [statusItem, statusItems, he]
  | 8 => exact cabTemp_eq s
  | 0 | 1 | 2 | 3 | 5 | 6 | 7 | 9 | 10 => rfl
  | _ + 11 => rfl

theorem Placement.signed_iff (p : Placement) : p.signed = true ↔ p.kind = .slot ∨ (p.kind = .status ∧ p.index = 8) := by
  unfold Placement.signed
  cases p.kind <;> simp

theorem Placement.saturate_eq (p : Placement) (v : Int) : p.saturate v =
    max (if p.kind = .slot ∨ (p.kind = .status ∧ p.index = 8) then (if p.wide = true then -32768 else -128) else 0)
      (min (if p.kind = .slot ∨ (p.kind = .status ∧ p.index = 8) then (if p.wide = true then 32767 else 127)
        else (if p.wide = true then 65535 else 255)) v) := by
  rw [← ite_iff p.signed_iff rfl rfl, ← ite_iff p.signed_iff rfl rfl]
  unfold Placement.saturate
  cases p.wide <;> cases p.signed <;> rfl

/-- A two-byte field, LOW-FIRST, as two bytes of the number (R176). -/
theorem le16_eq (v : Int) : le16 v = [BitVec.ofInt 8 v, BitVec.ofInt 8 (v / 256)] := by
  have low : (BitVec.ofInt 16 v).setWidth 8 = BitVec.ofInt 8 v := by
    apply BitVec.eq_of_toNat_eq
    simp only [BitVec.toNat_setWidth, BitVec.toNat_ofInt]
    omega
  have high : ((BitVec.ofInt 16 v) >>> 8).setWidth 8 = BitVec.ofInt 8 (v / 256) := by
    apply BitVec.eq_of_toNat_eq
    simp only [BitVec.toNat_setWidth, BitVec.toNat_ushiftRight, BitVec.toNat_ofInt, Nat.shiftRight_eq_div_pow]
    omega
  simp only [le16, low, high]

/-- The value that a placement reads (R145). -/
theorem placementValue_eq (p : Placement) : placementValue s p = match p.kind with
    | .output => if p.index < 48 then ((s.output p.index).value : Int) else 0
    | .slot => if p.index < 96 then (s.read (some p.index)).1 else 0
    | .status => (statusItems s).getD p.index 0
    | .nothing => 0 := by
  unfold placementValue
  cases p.kind with
  | status => exact statusItem_eq s _
  | output | slot | nothing => rfl

theorem placementBytes_eq (p : Placement) {v : Int} (hv : p.saturate (placementValue s p / 2 ^ p.shift) = v) :
    placementBytes s p = if p.wide = false then [BitVec.ofInt 8 v]
      else if p.highFirst = true then [BitVec.ofInt 8 (v / 256), BitVec.ofInt 8 v]
      else [BitVec.ofInt 8 v, BitVec.ofInt 8 (v / 256)] := by
  unfold placementBytes floorDiv
  rw [hv]
  simp only [le16_eq]
  cases p.wide <;> cases p.highFirst <;> rfl

theorem buildContent_length (n : Nat) : (buildContent s n).length = (frameCfg s.tables n).length := by
  have start : (List.replicate (frameCfg s.tables n).length (frameCfg s.tables n).fillByte).length =
      (frameCfg s.tables n).length := List.length_replicate
  exact (foldl_congr_of_keeps (P := fun content : List Byte => content.length = (frameCfg s.tables n).length)
    (f := fun content p => writeBytes content p.startByte (placementBytes s p)) (fun _ _ _ => rfl)
    (fun content p h => (writeBytes_length content p.startByte (placementBytes s p)).trans h)
    (frameCfg s.tables n).placements start).2

theorem putCommandFrame_eq (n : Nat) : putCommandFrame n s =
    (putFrame (frameCfg s.tables n).port (frameCfg s.tables n).cls
      { frame := { ident := .standard (frameCfg s.tables n).ident, kind := .data
                   lengthCode := BitVec.ofNat 4 (frameCfg s.tables n).length, data := buildContent s n }
        origin := .commandFrame n } s).setSchedule n { s.schedule n with
          lastPut := if (s.port (frameCfg s.tables n).port).outcome (frameCfg s.tables n).cls (.commandFrame n) = .accepted
            then some s.now else (s.schedule n).lastPut } := by
  rw [← buildContent_length]
  rfl

/-! ### The schedule -/

variable {s} {n : Nat}

theorem yieldHeld_iff : yieldHeld s n = true ↔ (frameCfg s.tables n).yields = true ∧ s.composer.climate = .standby := by
  simp only [yieldHeld, Bool.and_eq_true, beq_iff_eq]

theorem contentChanged_iff : contentChanged s n = true ↔ (s.schedule n).lastSent ≠ some (buildContent s n) := bne_iff_ne

/-- When a send-on-change test acts (R148). -/
def ChangeDue (s : State) (n : Nat) : Prop :=
  (frameCfg s.tables n).valid = true ∧ (frameCfg s.tables n).sendOnChange = true ∧
  ¬((frameCfg s.tables n).yields = true ∧ s.composer.climate = .standby) ∧
  (s.schedule n).lastSent ≠ some (buildContent s n)

theorem changeDue_iff : ((frameCfg s.tables n).valid && (frameCfg s.tables n).sendOnChange && !yieldHeld s n &&
    contentChanged s n) = true ↔ ChangeDue s n := by
  simp only [Bool.and_eq_true, Bool.not_eq_true', contentChanged_iff, ← Bool.not_eq_true, yieldHeld_iff, ChangeDue,
    and_assoc]

theorem changeTest_idle (h : ¬ChangeDue s n) : changeTest s n = s := if_neg (mt changeDue_iff.mp h)

theorem changeTest_puts (h : ChangeDue s n)
    (spaced : ∀ e, (s.schedule n).lastPut = some e → e + 10 * (frameCfg s.tables n).spacing ≤ s.now) :
    changeTest s n = putCommandFrame n s := by
  have free : spacingEnd s n = none := by
    unfold spacingEnd
    cases hl : (s.schedule n).lastPut with
    | none => rfl
    | some e => exact if_neg (Nat.not_lt.mpr (spaced e hl))
  refine (if_pos (changeDue_iff.mpr h)).trans ?_
  rw [free]

theorem changeTest_waits (h : ChangeDue s n) {e : Nat} (he : (s.schedule n).lastPut = some e)
    (early : s.now < e + 10 * (frameCfg s.tables n).spacing) :
    changeTest s n = s.setSchedule n { s.schedule n with
      spacing := some ((s.schedule n).spacing.getD (e + 10 * (frameCfg s.tables n).spacing)) } := by
  have running : spacingEnd s n = some (e + 10 * (frameCfg s.tables n).spacing) := by
    rw [spacingEnd, he]
    exact if_pos early
  refine (if_pos (changeDue_iff.mpr h)).trans ?_
  rw [running]
  cases (s.schedule n).spacing <;> rfl

theorem framePeriodEnds_eq {s1 : State} (h : restartPeriod n s = s1) : framePeriodEnds n s =
    if (frameCfg s1.tables n).yields = true ∧ s1.composer.climate = .standby then s1 else putCommandFrame n s1 := by
  subst h
  exact ite_iff yieldHeld_iff rfl rfl

theorem spacingEnds_eq {s1 : State} (h : s.setSchedule n { s.schedule n with spacing := none } = s1) : spacingEnds n s =
    if ((frameCfg s1.tables n).yields = true ∧ s1.composer.climate = .standby) ∨
        (s1.schedule n).lastSent = some (buildContent s1 n) then s1
    else putCommandFrame n s1 := by
  subst h
  refine (ite_iff ?_ rfl rfl).trans (ite_not _ _ _)
  rw [Bool.and_eq_true, contentChanged_iff, Bool.not_eq_true', ← Bool.not_eq_true, yieldHeld_iff, not_or]

end

/-- Settles O48: the content's fold byte by byte, the put, and the two timers with the change test. -/
theorem framesPutOnTime : Obligations.FramesPutOnTime := by
  refine ⟨?content, ⟨by decide, by decide, by decide, by decide⟩, ?timers⟩
  case content =>
    intro n s c cabs copy items value low high written bytes place frame sent
    have hbytes : ∀ p, placementBytes s p = bytes p := by
      intro p
      have read : placementValue s p = value p := placementValue_eq s p
      refine placementBytes_eq s p ?_
      rw [Placement.saturate_eq, read]
    have hplace : ∀ (content : List Byte) (p : Placement), content.length = c.length →
        writeBytes content p.startByte (placementBytes s p) = place content p := by
      intro content p hc
      rw [writeBytes_eq hc, hbytes]
    have folds := (foldl_congr_of_keeps (P := fun content : List Byte => content.length = c.length)
      (f := fun content p => writeBytes content p.startByte (placementBytes s p)) (g := place) hplace
      (fun content p h => (writeBytes_length content p.startByte (placementBytes s p)).trans h)
      c.placements (List.length_replicate : (List.replicate c.length c.fillByte).length = c.length)).1
    exact ⟨folds, buildContent_length s n, putCommandFrame_eq s n⟩
  case timers =>
    intro n d s hlen held
    have hn : n.val < s.composer.schedules.length := by omega
    refine ⟨fun running => ?_, fun running => ?_, ?_⟩
    · intro period s1
      show onExpiry (s.schedule n).periodTimer (framePeriodEnds n) s = _
      rw [running]
      exact congrArg _ (framePeriodEnds_eq (s := s.advanceTo d) (s1 := s1) rfl)
    · intro s1
      have schedule : s1.schedule n = { s.schedule n with spacing := none } := State.schedule_setSchedule _ _ _ hn
      have lastSent : (s1.schedule n).lastSent = (s.schedule n).lastSent := by
        rw [schedule]
      show onExpiry (s.schedule n).spacing (spacingEnds n) s = _
      rw [running, ← lastSent]
      exact congrArg _ (spacingEnds_eq (s := s.advanceTo d) (s1 := s1) rfl)
    · intro c l tested
      exact ⟨changeTest_idle, changeTest_puts, fun e due he early => changeTest_waits due he early⟩

end Sys2Proof.Machine
end

section
/-! PROOFS. The taking of a publication (chapter 8), its stages: roles, the frame, marks, requests and values. -/

namespace Sys2Proof.Machine

-- One theorem at a time: a thread for each of them at once would not fit into the checker's memory bound.
set_option Elab.async false

/-! ### Roles -/

/-- Where no record names an output, its own source gives its role (R137). -/
theorem role_of_unnamed {t : Tables} {k : Nat} (hv : (outputCfg t k).valid = true) (hn : namedRole t k = none) :
    role t k = match (outputCfg t k).source with
      | some (.zone z) =>
        if (outputCfg t k).function = some .heat ∨ (outputCfg t k).function = some .cool then some (.conditioning z) else none
      | _ => none := by
  unfold role
  dsimp only
  rw [if_pos hv, hn]
  dsimp only
  rcases (outputCfg t k).function with _ | fn
  · rcases (outputCfg t k).source with _ | src
    · rfl
    · cases src <;> rfl
  · rcases (outputCfg t k).source with _ | src
    · cases fn <;> rfl
    · cases fn <;> cases src <;> rfl

theorem role_of_named {t : Tables} {k : Nat} {r : Role} (hv : (outputCfg t k).valid = true) (hn : namedRole t k = some r) :
    role t k = some r := by
  unfold role
  dsimp only
  rw [if_pos hv, hn]

theorem role_of_invalid {t : Tables} {k : Nat} (hv : (outputCfg t k).valid = false) : role t k = none :=
  if_neg (by rw [hv]; decide)

/-- R137's table in its order (log 25). -/
theorem role_eq (t : Tables) (k : Nat) : role t k =
    if (outputCfg t k).valid = false then none
    else match (List.range 8).find? fun z => (zoneCfg t z).valid && (zoneCfg t z).blowerOutput == some k with
    | some z => some (.zoneBlower z)
    | none =>
    match (List.range 8).find? fun z => (zoneCfg t z).valid && (zoneCfg t z).damperOutput == some k with
    | some z => some (.zoneDamper z)
    | none =>
    match (List.range 6).find? fun d => (doorCfg t d).valid && (doorCfg t d).curtainFan == some k with
    | some d => some (.curtainFan d)
    | none =>
    match (List.range 6).find? fun d => (doorCfg t d).valid && (doorCfg t d).curtainHeat == some k with
    | some d => some (.curtainHeat d)
    | none =>
    match (List.range 2).find? fun c => (screenCfg t c).valid && (screenCfg t c).heater == some k with
    | some c => some (.screenHeater c)
    | none =>
    match (outputCfg t k).source with
    | some (.zone z) =>
      if (outputCfg t k).function = some .heat ∨ (outputCfg t k).function = some .cool then some (.conditioning z) else none
    | _ => none := by
  cases hv : (outputCfg t k).valid with
  | false => exact role_of_invalid hv
  | true =>
    cases h1 : (List.range 8).find? fun z => (zoneCfg t z).valid && (zoneCfg t z).blowerOutput == some k with
    | some z => exact role_of_named hv (by simp only [namedRole, firstNamed, h1])
    | none =>
    cases h2 : (List.range 8).find? fun z => (zoneCfg t z).valid && (zoneCfg t z).damperOutput == some k with
    | some z => exact role_of_named hv (by simp only [namedRole, firstNamed, h1, h2])
    | none =>
    cases h3 : (List.range 6).find? fun d => (doorCfg t d).valid && (doorCfg t d).curtainFan == some k with
    | some d => exact role_of_named hv (by simp only [namedRole, firstNamed, h1, h2, h3])
    | none =>
    cases h4 : (List.range 6).find? fun d => (doorCfg t d).valid && (doorCfg t d).curtainHeat == some k with
    | some d => exact role_of_named hv (by simp only [namedRole, firstNamed, h1, h2, h3, h4])
    | none =>
    cases h5 : (List.range 2).find? fun c => (screenCfg t c).valid && (screenCfg t c).heater == some k with
    | some c => exact role_of_named hv (by simp only [namedRole, firstNamed, h1, h2, h3, h4, h5])
    | none => exact role_of_unnamed hv (by simp only [namedRole, firstNamed, h1, h2, h3, h4, h5])

/-! ### The change tests' frame -/

/-- Puts and schedules have moved, and nothing else (R148). -/
def Scheduled (s t : State) : Prop :=
  t = { s with
    bp := t.bp
    fp := t.fp
    composer := { s.composer with schedules := t.composer.schedules }
    mgmt := { s.mgmt with flags := t.mgmt.flags } }

theorem Scheduled.refl (s : State) : Scheduled s s := rfl

theorem Scheduled.trans {s t u : State} (h : Scheduled s t) (k : Scheduled t u) : Scheduled s u := by
  unfold Scheduled at *
  rw [k, h]

theorem changeTest_scheduled (s : State) (n : Nat) : Scheduled s (changeTest s n) := by
  unfold changeTest
  dsimp only
  split
  · split <;> rfl
  · rfl

theorem foldl_changeTest_scheduled (ns : List Nat) (s : State) : Scheduled s (ns.foldl changeTest s) := by
  induction ns generalizing s with
  | nil => exact Scheduled.refl s
  | cons n ns ih => exact (changeTest_scheduled s n).trans (ih _)

theorem hasFlag_changeTest {s : State} {f : Flag} (h : hasFlag s.mgmt.flags f = true) (n : Nat) :
    hasFlag (changeTest s n).mgmt.flags f = true := by
  unfold changeTest
  dsimp only
  split
  · split
    · exact hasFlag_raiseWhen _ _ _ (s.setPort _ _) h
    · exact h
  · exact h

theorem hasFlag_foldl_changeTest {s : State} {f : Flag} (h : hasFlag s.mgmt.flags f = true) (ns : List Nat) :
    hasFlag (ns.foldl changeTest s).mgmt.flags f = true := by
  induction ns generalizing s with
  | nil => exact h
  | cons n ns ih => exact ih (hasFlag_changeTest h n)

/-! ### The stages before the tests -/

section
variable (p : Publication) (rest : List Publication) (s : State)

/-- The copy taken and the storage holds restarted (R141, R70). -/
def copied : State := restartHolds p (s.setComposer { s.composer with copy := p, publications := rest })

/-- The marks read and the F requests formed (R138, R140). -/
def marked : State := formFRequests (readMarks (copied p rest s))

/-- An output passes to FAILED (R138). -/
def newlyFailed : Bool := (List.range 48).any fun k => faultReported s k && !(s.output k).failed

/-- The state that the values of a fill leave, without the flag and its report. -/
def formedWith (outputs : List OutputLive) : State :=
  { s with
    regulator := { s.regulator with zones := (copied p rest s).regulator.zones }
    composer := { s.composer with publications := rest, copy := p, outputs := outputs } }

/-- Marks, requests and values change the outputs alone, beside what the flag's report does (R138 to R144). -/
theorem fillAll_marked_eq : fillAll (marked p rest s) =
    raiseWhen (newlyFailed s) .outputFault (formedWith p rest s (fillAll (marked p rest s)).composer.outputs) := by
  have frame : ∀ o1 o2 o3 : List OutputLive,
      ((raiseWhen (newlyFailed s) .outputFault ((copied p rest s).setComposer
          { (copied p rest s).composer with outputs := o1 })).setComposer
        { (copied p rest s).composer with outputs := o2 }).setComposer { (copied p rest s).composer with outputs := o3 } =
      raiseWhen (newlyFailed s) .outputFault (formedWith p rest s o3) := fun _ _ _ => rfl
  exact frame _ _ _

theorem takePublication_eq : takePublication p rest s = (List.range 24).foldl changeTest (fillAll (marked p rest s)) := rfl

/-- An output's live state after a fill (R138 to R144). -/
def filledOutput (k : Nat) (l : OutputLive) : OutputLive :=
  { value := filledValue (marked p rest s) (sourceValues (marked p rest s)) k
    forced := l.forced
    failed := faultReported s k
    fRequest := fRequestOf (readMarks (copied p rest s)) k l.forced }

theorem marked_outputs_get (k : Nat) : (marked p rest s).composer.outputs[k]? = (s.composer.outputs[k]?).map fun l =>
    { l with failed := faultReported s k, fRequest := fRequestOf (readMarks (copied p rest s)) k l.forced } := by
  show ((s.composer.outputs.mapIdx _).mapIdx _)[k]? = _
  rw [List.getElem?_mapIdx, List.getElem?_mapIdx, Option.map_map]
  rfl

theorem fillAll_outputs_get (k : Nat) :
    (fillAll (marked p rest s)).composer.outputs[k]? = (s.composer.outputs[k]?).map (filledOutput p rest s k) := by
  show ((marked p rest s).composer.outputs.mapIdx _)[k]? = _
  rw [List.getElem?_mapIdx, marked_outputs_get, Option.map_map]
  rfl

end

end Sys2Proof.Machine
end

section
/-! PROOFS. The taking of a publication (chapter 8), its values: O47. -/

namespace Sys2Proof.Machine

-- One theorem at a time: a thread for each of them at once would not fit into the checker's memory bound.
set_option Elab.async false

/-! ### Fields that name an output name one of 0 to 47 -/

theorem validOutputField_lt {t : Tables} {r : Rec} {i k : Nat} (h : validOutputField t r i = some k) : k < 48 := by
  have named : outputField r i = some k := by
    have both := (validOutputField_names t r i k).symm.trans (beq_iff_eq.mpr h)
    rw [Bool.and_eq_true, beq_iff_eq] at both
    exact both.1
  unfold outputField at named
  split at named
  · obtain rfl := Option.some.inj named
    assumption
  · cases named

theorem screenHeaterField_lt {t : Tables} {c k : Nat} {r : Rec} (h : screenHeaterField t c r = some k) : k < 48 := by
  have both := (screenHeaterField_names t c r k).symm.trans (beq_iff_eq.mpr h)
  rw [Bool.and_eq_true, ← validOutputField_names, beq_iff_eq] at both
  exact validOutputField_lt both.1

/-! ### An output's part in a fill -/

section
variable {p : Publication} {rest : List Publication} {s : State}

/-- After the marks are read, an output takes part in a fill when no fault is reported and it is not forced (R138, R142). -/
theorem usable_marked (hlen : s.composer.outputs.length = 48) {k : Nat} (hk : k < 48) :
    usable (marked p rest s).composer.outputs k = true ↔ faultReported s k = false ∧ (s.output k).forced = none := by
  have there : s.composer.outputs[k]? = some (s.output k) := by
    rw [State.output, getD_of_lt (by omega), List.getElem?_eq_getElem (by omega)]
  unfold usable
  rw [List.getD_eq_getElem?_getD, marked_outputs_get, there]
  simp

/-- An output's part in its source's fill, in a named role (R142). -/
def namedPart (s : State) (named : Option Nat) (r : Role) (demand : OutputKind → Nat) : List (Nat × Nat) :=
  match named with
  | some k => if role s.tables k = some r ∧ faultReported s k = false ∧ (s.output k).forced = none then
      [(k, demand (outputCfg s.tables k).kind)] else []
  | none => []

theorem fillItem_marked (hlen : s.composer.outputs.length = 48) {named : Option Nat} (hn : ∀ k, named = some k → k < 48)
    (r : Role) (demand : OutputKind → Nat) :
    fillItem (marked p rest s) (holds s.tables named r) demand = namedPart s named r demand := by
  cases named with
  | none => rfl
  | some k =>
    by_cases mine : role s.tables k = some r
    · simp only [holds, namedPart, mine, ↓reduceIte, true_and, fillItem, usable_marked hlen (hn k rfl)]
      rfl
    · simp only [holds, namedPart, mine, ↓reduceIte, false_and, fillItem]

/-- A zone once a publication is taken: its storage hold restarted where it was granted storage in ACTIVE (R70, R100). -/
def takenZone (p : Publication) (s : State) (z : Nat) (l : ZoneLive) : ZoneLive :=
  { l with
    hold := if (zoneCfg s.tables z).valid = true ∧ s.regulator.climate = .active ∧ 0 < (p.zones.getD z {}).storageGrant then
      some (s.now + 60000) else l.hold
    unpublished := false }

theorem copied_zones_get (z : Nat) :
    (copied p rest s).regulator.zones[z]? = (s.regulator.zones[z]?).map (takenZone p s z) := by
  have mapped : (copied p rest s).regulator.zones[z]? = (s.regulator.zones[z]?).map _ := List.getElem?_mapIdx
  rw [mapped]
  congr 1
  funext l
  simp only [Bool.and_eq_true, beq_iff_eq, decide_eq_true_eq, and_assoc]
  rfl

theorem marked_zone_demands (z : Nat) : ((marked p rest s).zone z).demand = (s.zone z).demand ∧
    ((marked p rest s).zone z).blower = (s.zone z).blower ∧ ((marked p rest s).zone z).damper = (s.zone z).damper := by
  unfold State.zone
  rw [List.getD_eq_getElem?_getD, List.getD_eq_getElem?_getD,
    show (marked p rest s).regulator.zones[z]? = (s.regulator.zones[z]?).map (takenZone p s z) from copied_zones_get z]
  cases s.regulator.zones[z]? with
  | none => exact ⟨rfl, rfl, rfl⟩
  | some l => exact ⟨rfl, rfl, rfl⟩

/-- The conditioning function that a zone demands of its fill (R142). -/
def fillFunction (p : Publication) (s : State) (z : Nat) : Option OutputFn :=
  if 0 < (s.zone z).demand ∨ ((s.zone z).demand = 0 ∧ 0 < (p.zones.getD z {}).storageGrant) then some .heat
  else if (s.zone z).demand < 0 then some .cool else none

theorem demandedFunction_marked (z : Nat) : demandedFunction (marked p rest s) z = fillFunction p s z := by
  unfold demandedFunction fillFunction
  rw [(marked_zone_demands z).1]
  show (if 0 < (s.zone z).demand then some OutputFn.heat
    else if (s.zone z).demand = 0 ∧ 0 < (p.zones.getD z {}).storageGrant then some .heat
    else if (s.zone z).demand < 0 then some .cool else none) = _
  split
  · rename_i heats
    rw [if_pos (.inl heats)]
  · rename_i cold
    simp only [cold, false_or]

/-- Whether an output takes part in a zone's fill in the conditioning role (R142). -/
def conditionsFill (p : Publication) (s : State) (z k : Nat) : Bool :=
  decide (role s.tables k = some (.conditioning z) ∧ (fillFunction p s z).isSome = true ∧
    (outputCfg s.tables k).function = fillFunction p s z ∧ faultReported s k = false ∧ (s.output k).forced = none)

theorem conditioningItems_marked (hlen : s.composer.outputs.length = 48) (z : Nat) :
    conditioningItems (marked p rest s) z = (List.range 16).flatMap fun rank =>
      ((List.range 48).filter fun k => conditionsFill p s z k && (outputCfg s.tables k).fillRank == rank).map
        fun k => (k, (outputCfg s.tables k).kind.full) := by
  unfold conditioningItems
  rw [demandedFunction_marked]
  cases hf : fillFunction p s z with
  | none =>
    have nobody : ∀ k, conditionsFill p s z k = false := by
      intro k
      simp [conditionsFill, hf]
    simp [nobody]
  | some fn =>
    show (byRank s.tables ((conditioningOutputs s.tables z fn).filter (usable (marked p rest s).composer.outputs))).map
      (fun k => (k, (outputCfg s.tables k).kind.full)) = _
    rw [byRank, List.map_flatMap]
    congr 1
    funext rank
    congr 1
    rw [conditioningOutputs, List.filter_filter, List.filter_filter]
    apply List.filter_congr
    intro k hk
    rw [Bool.eq_iff_iff]
    simp only [Bool.and_eq_true, usable_marked hlen (List.mem_range.mp hk), beq_iff_eq, conditionsFill, decide_eq_true_eq,
      hf, Option.isSome_some, true_and]
    constructor
    · rintro ⟨⟨ranked, free⟩, fits, mine⟩
      exact ⟨⟨mine, fits, free⟩, ranked⟩
    · rintro ⟨⟨mine, fits, free⟩, ranked⟩
      exact ⟨⟨ranked, free⟩, fits, mine⟩

theorem fillZone_marked (hlen : s.composer.outputs.length = 48) (z : Nat) : fillZone (marked p rest s) z =
    (let c := zoneCfg s.tables z
     let share := p.zones.getD z {}
     if c.valid = true then fillChain s.tables (share.grant + share.storageGrant)
       (namedPart s c.blowerOutput (.zoneBlower z) (fun kind => perMilleDemand kind (s.zone z).blower)
         ++ namedPart s c.damperOutput (.zoneDamper z) (fun kind => perMilleDemand kind (s.zone z).damper)
         ++ (List.range 16).flatMap fun rank =>
           ((List.range 48).filter fun k => conditionsFill p s z k && (outputCfg s.tables k).fillRank == rank).map
             fun k => (k, (outputCfg s.tables k).kind.full))
     else []) := by
  obtain ⟨-, blower, damper⟩ := marked_zone_demands (p := p) (rest := rest) (s := s) z
  have first := fillItem_marked (p := p) (rest := rest) hlen (named := (zoneCfg s.tables z).blowerOutput)
    (fun _ => validOutputField_lt) (.zoneBlower z) (fun kind => perMilleDemand kind (s.zone z).blower)
  have second := fillItem_marked (p := p) (rest := rest) hlen (named := (zoneCfg s.tables z).damperOutput)
    (fun _ => validOutputField_lt) (.zoneDamper z) (fun kind => perMilleDemand kind (s.zone z).damper)
  unfold fillZone
  dsimp only
  rw [blower, damper, conditioningItems_marked hlen, ← first, ← second]
  rfl

theorem fillDoor_marked (hlen : s.composer.outputs.length = 48) (d : Nat) : fillDoor (marked p rest s) d =
    (let c := doorCfg s.tables d
     if c.valid = true then fillChain s.tables (p.doors.getD d {}).grant
       (namedPart s c.curtainFan (.curtainFan d) (fun kind => curtainFanDemand kind (s.door d).fan)
         ++ namedPart s c.curtainHeat (.curtainHeat d) (fun kind => curtainHeatDemand kind (s.door d).stage))
     else []) := by
  have first := fillItem_marked (p := p) (rest := rest) hlen (named := (doorCfg s.tables d).curtainFan)
    (fun _ => validOutputField_lt) (.curtainFan d) (fun kind => curtainFanDemand kind (s.door d).fan)
  have second := fillItem_marked (p := p) (rest := rest) hlen (named := (doorCfg s.tables d).curtainHeat)
    (fun _ => validOutputField_lt) (.curtainHeat d) (fun kind => curtainHeatDemand kind (s.door d).stage)
  dsimp only
  rw [← first, ← second]
  rfl

theorem fillScreen_marked (hlen : s.composer.outputs.length = 48) (c : Nat) : fillScreen (marked p rest s) c =
    if (screenCfg s.tables c).valid = true then fillChain s.tables (p.screens.getD c {}).grant
      (namedPart s (screenCfg s.tables c).heater (.screenHeater c)
        (fun kind => screenHeatDemand kind (s.screen c).effectiveLevel))
    else [] := by
  have first := fillItem_marked (p := p) (rest := rest) hlen (named := (screenCfg s.tables c).heater)
    (fun _ => screenHeaterField_lt) (.screenHeater c) (fun kind => screenHeatDemand kind (s.screen c).effectiveLevel)
  rw [← first]
  rfl

/-! ### An output after the fill -/

/-- A FAILED or held-off output draws nothing, forced or not (R138, R144). -/
def cutOff (p : Publication) (s : State) (k : Nat) : Bool :=
  faultReported s k || (p.supply.cut && (outputCfg s.tables k).conditioning)

variable {k : Nat} {l : OutputLive} (hl : (fillAll (marked p rest s)).composer.outputs[k]? = some l)
include hl

theorem filled_eq : s.composer.outputs[k]? = some (s.output k) ∧ l = filledOutput p rest s k (s.output k) := by
  rw [fillAll_outputs_get] at hl
  obtain ⟨x, hx, rfl⟩ := Option.map_eq_some_iff.mp hl
  have output : s.output k = x := by
    rw [State.output, List.getD_eq_getElem?_getD, hx]
    rfl
  rw [output]
  exact ⟨hx, rfl⟩

theorem filled_forced : l.forced = (s.output k).forced := by rw [(filled_eq hl).2]; rfl

theorem filled_failed : l.failed = faultReported s k := by rw [(filled_eq hl).2]; rfl

theorem readMarks_output : ((readMarks (copied p rest s)).output k).failed = faultReported s k := by
  have there : (readMarks (copied p rest s)).composer.outputs[k]? =
      some { s.output k with failed := faultReported s k } := by
    have mapped : (readMarks (copied p rest s)).composer.outputs[k]? = (s.composer.outputs[k]?).map _ :=
      List.getElem?_mapIdx
    rw [mapped, (filled_eq hl).1]
    rfl
  rw [State.output, List.getD_eq_getElem?_getD, there]
  rfl

theorem marked_output : (marked p rest s).output k = { s.output k with
    failed := faultReported s k, fRequest := fRequestOf (readMarks (copied p rest s)) k (s.output k).forced } := by
  rw [State.output, List.getD_eq_getElem?_getD, marked_outputs_get, (filled_eq hl).1]
  rfl

/-- The F request: of a forced output the power of its value unless it is cut off (R140). -/
theorem filled_fRequest : l.fRequest = match l.forced with
    | some v => if cutOff p s k = true then 0 else (outputCfg s.tables k).power v
    | none => 0 := by
  have request : l.fRequest = fRequestOf (readMarks (copied p rest s)) k (s.output k).forced := by
    rw [(filled_eq hl).2]
    rfl
  rw [request, filled_forced hl]
  cases (s.output k).forced with
  | none => rfl
  | some v =>
    show (if (((readMarks (copied p rest s)).output k).failed || _) = true then 0 else _) = _
    rw [readMarks_output hl]
    rfl

/-- The value: a forced one fitted, any other as the fill gives it, 0 where it is cut off or not valid (R138, R142 to R144). -/
theorem filled_value : l.value = if (outputCfg s.tables k).valid = true then
      (match l.forced with
        | some v => if cutOff p s k = true then 0 else (outputCfg s.tables k).fit v (p.outputs.getD k {}).grant
        | none => if (cutOff p s k || s.composer.climate == .standby) = true then 0
          else (((sourceValues (marked p rest s)).find? fun x => x.1 == k).map (·.2)).getD 0)
    else 0 := by
  have value : l.value = filledValue (marked p rest s) (sourceValues (marked p rest s)) k := by
    rw [(filled_eq hl).2]
    rfl
  rw [value, filled_forced hl]
  unfold filledValue forcedValue
  rw [marked_output hl]
  cases (s.output k).forced <;> rfl

theorem filled_of_cutOff (h : cutOff p s k = true) : l.value = 0 ∧ l.fRequest = 0 := by
  rw [filled_value hl, filled_fRequest hl, h]
  cases l.forced <;> simp

theorem filled_of_forced {v : Nat} (hv : l.forced = some v) (valid : (outputCfg s.tables k).valid = true)
    (h : cutOff p s k = false) :
    l.value = (outputCfg s.tables k).fit v (p.outputs.getD k {}).grant ∧ l.fRequest = (outputCfg s.tables k).power v := by
  rw [filled_value hl, filled_fRequest hl, hv, h, if_pos valid]
  exact ⟨rfl, rfl⟩

theorem filled_of_standby (hf : l.forced = none) (standby : s.composer.climate = .standby) : l.value = 0 := by
  rw [filled_value hl, hf, standby]
  simp

theorem filled_of_source (hf : l.forced = none) (active : s.composer.climate = .active)
    (valid : (outputCfg s.tables k).valid = true) (h : cutOff p s k = false) :
    l.value = (((sourceValues (marked p rest s)).find? fun x => x.1 == k).map (·.2)).getD 0 := by
  rw [filled_value hl, hf, h, active, if_pos valid]
  rfl

end

theorem newlyFailed_iff (s : State) : newlyFailed s = true ↔
    ∃ k, k < 48 ∧ faultReported s k = true ∧ (s.output k).failed = false := by
  simp only [newlyFailed, List.any_eq_true, List.mem_range, Bool.and_eq_true, Bool.not_eq_true']

/-- What the stages before the tests have moved (R138 to R144). -/
def Taken (p : Publication) (rest : List Publication) (s b : State) : Prop :=
  b = { s with
    bp := b.bp
    regulator := { s.regulator with zones := b.regulator.zones }
    composer := { s.composer with publications := rest, copy := p, outputs := b.composer.outputs }
    mgmt := { s.mgmt with flags := b.mgmt.flags } }

theorem fillAll_marked_taken (p : Publication) (rest : List Publication) (s : State) :
    Taken p rest s (fillAll (marked p rest s)) := by
  have filled := fillAll_marked_eq p rest s
  generalize fillAll (marked p rest s) = b at filled ⊢
  unfold Taken
  rw [filled]
  rfl

theorem Taken.scheduled {p : Publication} {rest : List Publication} {s b t : State} (hb : Taken p rest s b)
    (ht : Scheduled b t) : t = { s with
      bp := t.bp
      fp := t.fp
      regulator := { s.regulator with zones := t.regulator.zones }
      composer := { s.composer with
        publications := rest, copy := p, outputs := t.composer.outputs, schedules := t.composer.schedules }
      mgmt := { s.mgmt with flags := t.mgmt.flags } } := by
  unfold Taken at hb
  unfold Scheduled at ht
  rw [ht, hb]

/-- Settles O47: stage by stage; each clause on an output reads off its value and request after the fill. -/
theorem publicationTaken : Obligations.PublicationTaken := by
  refine ⟨role_eq, ?_⟩
  intro p rest s hp cfg faulty part permille third blown zoneFill doorFill screenFill filled
  have hfaulty : ∀ k, faultReported s k = faulty k := by
    intro k
    show (_ && _ && decide (_ ≠ 0)) = (_ && (_ && _ != 0))
    rw [Bool.and_assoc]
    congr 2
    rw [Bool.eq_iff_iff, decide_eq_true_eq, bne_iff_ne]
  let before := fillAll (marked p rest s)
  let t := (List.range 24).foldl changeTest before
  have ran : exec .publicationTake s = .next t := by
    simp only [exec, execPublicationTake, hp]
    rfl
  obtain ⟨outputs, regulator⟩ : t.composer.outputs = before.composer.outputs ∧ t.regulator = before.regulator :=
    foldl_changeTest_keeps _ _
  have flagged : before = raiseWhen (newlyFailed s) .outputFault (formedWith p rest s before.composer.outputs) :=
    fillAll_marked_eq p rest s
  refine ⟨t, ran, ?frame, ?outputs, ?zones, ?lengths⟩
  case frame => exact (fillAll_marked_taken p rest s).scheduled (foldl_changeTest_scheduled _ _)
  case outputs =>
    intro k l hl
    rw [outputs] at hl
    have failed : l.failed = faulty k := (filled_failed hl).trans (hfaulty k)
    have cut_iff : cutOff p s k = true ↔ l.failed = true ∨ (p.supply.cut = true ∧ (cfg k).conditioning = true) := by
      rw [cutOff, Bool.or_eq_true, Bool.and_eq_true, filled_failed hl]
    have free : l.failed = false → ¬(p.supply.cut = true ∧ (cfg k).conditioning = true) → cutOff p s k = false := by
      intro healthy open'
      rw [← Bool.not_eq_true, cut_iff]
      rintro (broken | held)
      · exact absurd (healthy.symm.trans broken) (by decide)
      · exact open' held
    refine ⟨filled_forced hl, failed, fun invalid => ?_, fun broken => filled_of_cutOff hl (cut_iff.mpr (.inl broken)),
      fun cut heats => filled_of_cutOff hl (cut_iff.mpr (.inr ⟨cut, heats⟩)), fun hf standby => filled_of_standby hl hf standby,
      fun hf => ?_, fun v hv valid healthy open' => filled_of_forced hl hv valid (free healthy open'),
      fun broken wasWhole hk => ?_, fun hlen active valid healthy hf open' => ?_⟩
    · rw [filled_value hl, if_neg (by rw [show (outputCfg s.tables k).valid = false from invalid]; decide)]
    · rw [filled_fRequest hl, hf]
    · have newly : newlyFailed s = true :=
        (newlyFailed_iff s).mpr ⟨k, hk, (filled_failed hl).symm.trans broken, wasWhole⟩
      refine hasFlag_foldl_changeTest ?_ _
      rw [flagged, newly]
      exact hasFlag_raise _ _
    · have hpart : ∀ named r demand, namedPart s named r demand = part named r demand := by
        intro named r demand
        cases named with
        | none => rfl
        | some j =>
          exact ite_iff (and_congr_right' (and_congr_left' (Iff.of_eq (congrArg (· = false) (hfaulty j))))) rfl rfl
      have hpermille : ∀ x, (fun kind => perMilleDemand kind x) = permille x := by
        intro x
        funext kind
        cases kind <;> rfl
      have hblown : ∀ x, (fun kind => curtainFanDemand kind x) = blown x := by
        intro x
        funext kind
        cases x <;> cases kind <;> rfl
      have hcurtain : ∀ x, (fun kind => curtainHeatDemand kind x) = third x := by
        intro x
        funext kind
        cases kind <;> rfl
      have hscreen : ∀ x, (fun kind => screenHeatDemand kind x) = third x := by
        intro x
        funext kind
        cases kind <;> rfl
      have zones : ∀ z, fillZone (marked p rest s) z = zoneFill z := by
        intro z
        rw [fillZone_marked hlen]
        dsimp only
        rw [hpart, hpart, hpermille, hpermille]
        simp only [conditionsFill, hfaulty]
        rfl
      have doors : ∀ d, fillDoor (marked p rest s) d = doorFill d := by
        intro d
        rw [fillDoor_marked hlen]
        dsimp only
        rw [hpart, hpart, hblown, hcurtain]
      have screens : ∀ c, fillScreen (marked p rest s) c = screenFill c := by
        intro c
        rw [fillScreen_marked hlen, hpart, hscreen]
      have values : sourceValues (marked p rest s) = filled := by
        unfold sourceValues
        rw [funext zones, funext doors, funext screens]
      rw [filled_of_source hl hf active valid (free healthy open'), values]
  case zones =>
    intro z l hl
    rw [regulator] at hl
    have zone : (s.regulator.zones[z]?).map (takenZone p s z) = some l := by
      rw [← copied_zones_get (rest := rest)]
      exact hl
    obtain ⟨x, hx, rfl⟩ := Option.map_eq_some_iff.mp zone
    have found : s.zone z = x := by
      rw [State.zone, List.getD_eq_getElem?_getD, hx]
      rfl
    rw [found]
    rfl
  case lengths =>
    refine ⟨?_, ?_, ?_⟩
    · rw [outputs]
      show (((s.composer.outputs.mapIdx _).mapIdx _).mapIdx _).length = _
      rw [List.length_mapIdx, List.length_mapIdx, List.length_mapIdx]
    · rw [regulator]
      show (s.regulator.zones.mapIdx _).length = _
      rw [List.length_mapIdx]
    · intro formed newly
      have same : formed = formedWith p rest s before.composer.outputs := by
        show ({ s with
          regulator := { s.regulator with zones := t.regulator.zones }
          composer := { s.composer with publications := rest, copy := p, outputs := t.composer.outputs } } : State) = _
        rw [outputs, regulator]
        rfl
      have newly_iff : newlyFailed s = true ↔ newly := by
        rw [newlyFailed_iff]
        simp only [hfaulty]
        rfl
      constructor
      · intro some'
        show (List.range 24).foldl changeTest before = _
        rw [flagged, newly_iff.mpr some', same]
        rfl
      · intro none
        show (List.range 24).foldl changeTest before = _
        rw [flagged, Bool.eq_false_iff.mpr (mt newly_iff.mp none), same, raiseWhen_false]

end Sys2Proof.Machine
end

section
/-! PROOFS. The reads (10.2, 11.2, 11.4): O52. -/

namespace Sys2Proof.Machine

-- One theorem at a time: a thread for each of them at once would not fit into the checker's memory bound.
set_option Elab.async false

/-! ### Items as lists of words -/

theorem eq_getElem?_of_lt {α : Type} {f : Nat → Option α} {xs : List α} {n : Nat} (len : xs.length = n)
    (inside : (List.range n).map f = xs.map some) {k : Nat} (hk : k < n) : f k = xs[k]? := by
  have here : ((List.range n).map f)[k]? = (xs.map some)[k]? := congrArg (·[k]?) inside
  rw [List.getElem?_map, List.getElem?_range hk, List.getElem?_map, List.getElem?_eq_getElem (len ▸ hk)] at here
  rw [List.getElem?_eq_getElem (len ▸ hk)]
  exact Option.some.inj here

/-- A function that agrees with a list at its indices and answers none beyond them reads the list. -/
theorem eq_getElem?_of {α : Type} {f : Nat → Option α} {xs : List α} {n : Nat} (len : xs.length = n)
    (inside : (List.range n).map f = xs.map some) (beyond : ∀ k, f (k + n) = none) (k : Nat) : f k = xs[k]? := by
  by_cases hk : k < n
  · exact eq_getElem?_of_lt len inside hk
  · obtain ⟨j, rfl⟩ := Nat.exists_eq_add_of_le' (Nat.le_of_not_lt hk)
    rw [beyond, List.getElem?_eq_none (by omega)]

theorem getElem?_map_range_append {α : Type} (f : Nat → α) (n : Nat) (rest : List α) (k : Nat) :
    ((List.range n).map f ++ rest)[k]? = if k < n then some (f k) else rest[k - n]? := by
  rw [List.getElem?_append, List.length_map, List.length_range]
  refine ite_congr rfl (fun hk => ?_) fun _ => rfl
  rw [List.getElem?_map, List.getElem?_range hk, Option.map_some]

/-- Two words for each index are one list of twice as many. -/
theorem flatMap_range_pair {α : Type} (f g : Nat → α) (n : Nat) : ((List.range n).flatMap fun k => [f k, g k]) =
    (List.range (2 * n)).map fun k => if k % 2 = 0 then f (k / 2) else g (k / 2) := by
  induction n with
  | zero => rfl
  | succ n ih =>
    have even : 2 * n % 2 = 0 := by omega
    have odd : (2 * n + 1) % 2 ≠ 0 := by omega
    have half : (2 * n + 1) / 2 = n := by omega
    rw [List.range_succ, List.flatMap_append, ih, show 2 * (n + 1) = 2 * n + 1 + 1 by omega, List.range_succ,
      List.range_succ, List.map_append, List.map_append, List.append_assoc]
    simp [even, half]

theorem timerWord_eq (s : State) (t : Timer) : timerWord s t = match t with
    | some d => ((d - s.now) / 10 : Nat)
    | none => 0xFFFF := by
  cases t <;> rfl

theorem natWord_eq (x : Option Nat) : natWord x = match x with
    | some v => (v : Int)
    | none => 0xFFFF := by
  cases x <;> rfl

theorem presenceWords_eq (x : Option Int) : presenceWords x = match x with
    | some v => { w1 := 1, w2 := v }
    | none => { w1 := 0, w2 := 0 } := by
  cases x <;> rfl

/-- An image without the signature shows another word in its place, below 65536 (log 5). -/
theorem signatureWord_unsigned {im : Image} (h : im.signed = false) :
    signatureWord im ≠ 0x5A3C ∧ signatureWord im < 65536 := by
  have small : Config.erasedSignature.val < 65535 := Config.erasedSignature.isLt
  rw [signatureWord, if_neg (by rw [h]; decide)]
  split <;> omega

/-- The sources of the last publication, in the order of kind 6's items from 12 on (R179). -/
def publicationWords (p : Publication) : List Words :=
  ((List.range 48).map fun k => shareWords (p.outputs.getD k {})) ++
    (((List.range 2).map fun k => shareWords (p.screens.getD k {})) ++
      (((List.range 8).flatMap fun k =>
          [{ w1 := (p.zones.getD k {}).cls.shareCode, w2 := (p.zones.getD k {}).request, w3 := (p.zones.getD k {}).grant },
            { w1 := boolWord (p.zones.getD k {}).limited, w2 := (p.zones.getD k {}).storageRequest,
              w3 := (p.zones.getD k {}).storageGrant }]) ++
        ((List.range 6).map fun k => shareWords (p.doors.getD k {}))))

theorem publicationItem_eq (p : Publication) (k : Nat) : publicationItem p (k + 12) = (publicationWords p)[k]? := by
  rw [publicationWords, flatMap_range_pair, getElem?_map_range_append, getElem?_map_range_append,
    getElem?_map_range_append, List.getElem?_map, publicationItem, if_neg (by omega)]
  refine ite_congr (propext (by omega)) (fun _ => rfl) fun outputs => ?_
  rw [show k + 12 - 60 = k - 48 by omega, show k + 12 - 62 = k - 48 - 2 by omega,
    show k + 12 - 78 = k - 48 - 2 - 2 * 8 by omega]
  refine ite_congr (propext (by omega)) (fun _ => rfl) fun screens => ?_
  refine ite_congr (propext (by omega)) (fun _ => (apply_ite some _ _ _).symm) fun zones => ?_
  by_cases doors : k - 48 - 2 - 2 * 8 < 6
  · rw [if_pos (by omega), List.getElem?_range doors, Option.map_some]
  · rw [if_neg (by omega), List.getElem?_eq_none (by rw [List.length_range]; omega), Option.map_none]

theorem replyWith_eq (code : Nat) (st : Status) {bytes : List Byte} (len : bytes.length = 6) (s : State) :
    replyWith code st bytes s = putFrame .bp .control
      { frame := { ident := .standard (s.classifier.mb + 1), kind := .data, lengthCode := 8,
                   data := BitVec.ofNat 8 code :: BitVec.ofNat 8 st.code :: bytes }
        origin := .reply false } s := by
  have whole : (bytes ++ List.replicate 6 0).take 6 = bytes := by rw [← len, List.take_left]
  have eight : (BitVec.ofNat 8 code :: BitVec.ofNat 8 st.code :: bytes).length = 8 := by
    rw [List.length_cons, List.length_cons, len]
  rw [replyWith, replyFrame, composedFrame, whole, eight]
  rfl

theorem recordBytes_eq (r : Rec) (offset : Nat) :
    recordBytes r offset = (List.range 6).map fun i => r.getD (offset + i) 0 := by
  refine List.ext_getElem? fun i => ?_
  rw [recordBytes, List.getElem?_take, List.getElem?_append, List.getElem?_drop, List.length_drop,
    List.getElem?_replicate, List.getElem?_map]
  by_cases hi : i < 6
  · rw [if_pos hi, List.getElem?_range hi, Option.map_some, List.getD_eq_getElem?_getD]
    by_cases held : i < r.length - offset
    · rw [if_pos held, List.getElem?_eq_getElem (by omega), Option.getD_some]
    · rw [if_neg held, if_pos (by omega), List.getElem?_eq_none (by omega), Option.getD_none]
  · rw [if_neg hi, List.getElem?_eq_none (by rw [List.length_range]; omega), Option.map_none]

section
variable {data : List Byte} {s : State}

theorem serveReadRecord_noTable (h : TableId.ofNumber (u8 data 1) = none) :
    serveReadRecord data s = reply 1 .badTable s := by
  rw [serveReadRecord, h]

theorem serveReadRecord_table {k : TableId} (h : TableId.ofNumber (u8 data 1) = some k) : serveReadRecord data s =
    if u8 data 2 < k.count then
      if u8 data 3 < k.size then replyWith 1 .ok (recordBytes (record s.tables k (u8 data 2)) (u8 data 3)) s
      else reply 1 .badValue s
    else reply 1 .badIndex s := by
  rw [serveReadRecord, h]

theorem serveReadState_noItem (h : stateItem s (u8 data 1) (u8 data 2) (u8 data 3) = none) :
    serveReadState data s = reply 2 .badValue s := by
  rw [serveReadState, h]
  cases objectCount (u8 data 1) <;> rfl

theorem serveReadState_item {n : Nat} {w : Words} (hn : objectCount (u8 data 1) = some n)
    (hw : stateItem s (u8 data 1) (u8 data 2) (u8 data 3) = some w) :
    serveReadState data s = if u8 data 2 < n then replyWith 2 .ok w.toBytes s else reply 2 .badIndex s := by
  rw [serveReadState, hn, hw]

end

/-- Settles O52: each kind's items are a list of words, the supply unit's with its publication's sources behind them. -/
theorem readsAnswered : Obligations.ReadsAnswered := by
  refine ⟨fun code st s => replyWith_eq code st (bytes := List.replicate 6 0) rfl s, ?codes,
    fun im => ⟨fun h => if_pos h, signatureWord_unsigned⟩,
    fun kind => eq_getElem?_of (n := 10) (f := objectCount) rfl rfl (fun _ => rfl) kind, ?items, ?answers⟩
  case codes => decide
  case items =>
    intro s i item m u pub time may yes one present pair port slot zone door screen sent
    have htime : time = timerWord s := funext fun t => (timerWord_eq s t).symm
    have hmay : may = natWord := funext fun t => (natWord_eq t).symm
    have hpresent : present = presenceWords := funext fun x => (presenceWords_eq x).symm
    clear_value time may present
    subst htime hmay hpresent
    refine ⟨?management, ?port, ?slot, ?zone, ?door, ?screen, ?supply, ?output, ?frame, ?stack⟩
    case management => exact eq_getElem?_of (n := 13) (f := stateItem s 0 i) rfl rfl (fun _ => rfl) item
    case port => exact eq_getElem?_of (n := 17) (f := stateItem s 1 i) rfl rfl (fun _ => rfl) item
    case slot => exact eq_getElem?_of (n := 8) (f := stateItem s 2 i) rfl rfl (fun _ => rfl) item
    case zone => exact eq_getElem?_of (n := 17) (f := stateItem s 3 i) rfl rfl (fun _ => rfl) item
    case door => exact eq_getElem?_of (n := 11) (f := stateItem s 4 i) rfl rfl (fun _ => rfl) item
    case screen => exact eq_getElem?_of (n := 9) (f := stateItem s 5 i) rfl rfl (fun _ => rfl) item
    case supply =>
      rw [List.append_assoc, List.append_assoc, List.append_assoc, List.getElem?_append]
      by_cases own : item < 12
      · refine Eq.trans ?_ (if_pos own).symm
        exact eq_getElem?_of_lt (n := 12) (f := supplyItem s) rfl rfl own
      · refine Eq.trans ?_ (if_neg own).symm
        obtain ⟨k, rfl⟩ := Nat.exists_eq_add_of_le' (Nat.le_of_not_lt own)
        exact publicationItem_eq pub k
    case output => exact eq_getElem?_of (n := 4) (f := stateItem s 7 i) rfl rfl (fun _ => rfl) item
    case frame => exact eq_getElem?_of (n := 7) (f := stateItem s 8 i) rfl rfl (fun _ => rfl) item
    case stack =>
      refine eq_getElem?_of (n := 3) (f := stateItem s 9 i) rfl ?_ (fun _ => rfl) item
      change [some _, some _, some _] = [some _, some _, some _]
      cases s.overrides.entries[i]? with
      | none => rfl
      | some e =>
        obtain ⟨preset, lifetime⟩ := e
        cases lifetime <;> rfl
  case answers =>
    intro a b c more rest s noSwitch s' answer
    have refusal (code : Nat) (st : Status) : reply code st s' = answer (BitVec.ofNat 8 code) (BitVec.ofNat 8 st.code)
        (List.replicate 6 0) := replyWith_eq code st (bytes := List.replicate 6 0) rfl s'
    have answered (code : Nat) {bytes : List Byte} (len : bytes.length = 6) :
        replyWith code .ok bytes s' = answer (BitVec.ofNat 8 code) 0 bytes := replyWith_eq code .ok len s'
    constructor
    · intro hcaptured
      have served : exec .readRecord s = .next (serveReadRecord (1 :: a :: b :: c :: more) s') :=
        takeRequest_served hcaptured rfl (wellFormedRequest_of (n := 4) rfl (by simp)) noSwitch (.inr rfl)
      rw [served]
      refine ⟨fun unknown => ?_, fun k hk => ⟨fun beyond => ?_, fun index past => ?_, fun index within => ?_⟩⟩
      · exact congrArg Host.Outcome.next (Eq.trans (serveReadRecord_noTable unknown) (refusal 1 .badTable))
      · refine congrArg Host.Outcome.next (Eq.trans (serveReadRecord_table hk) ?_)
        exact (if_neg (Nat.not_lt.mpr beyond)).trans (refusal 1 .badIndex)
      · refine congrArg Host.Outcome.next (Eq.trans (serveReadRecord_table hk) ?_)
        exact ((if_pos index).trans (if_neg (Nat.not_lt.mpr past))).trans (refusal 1 .badValue)
      · refine congrArg Host.Outcome.next (Eq.trans (serveReadRecord_table hk) ?_)
        refine ((if_pos index).trans (if_pos within)).trans ?_
        rw [recordBytes_eq]
        exact answered 1 (by rw [List.length_map, List.length_range])
    · intro hcaptured
      have served : exec .readState s = .next (serveReadState (2 :: a :: b :: c :: more) s') :=
        takeRequest_served hcaptured rfl (wellFormedRequest_of (n := 4) rfl (by simp)) noSwitch (.inr rfl)
      rw [served]
      refine ⟨fun unknown => ?_, fun n w kind words => ⟨fun index => ?_, fun beyond => ?_⟩⟩
      · exact congrArg Host.Outcome.next (Eq.trans (serveReadState_noItem unknown) (refusal 2 .badValue))
      · refine congrArg Host.Outcome.next (Eq.trans (serveReadState_item kind words) ?_)
        exact (if_pos index).trans (answered 2 rfl)
      · refine congrArg Host.Outcome.next (Eq.trans (serveReadState_item kind words) ?_)
        exact (if_neg (Nat.not_lt.mpr beyond)).trans (refusal 2 .badIndex)

end Sys2Proof.Machine
end

section
/-! PROOFS. Activation (10.3): O55. -/

namespace Sys2Proof.Machine

-- One theorem at a time: a thread for each of them at once would not fit into the checker's memory bound.
set_option Elab.async false

/-! ### The checks of a merged table (R168) -/

theorem TableId.ofNumber_number (k : TableId) : TableId.ofNumber k.number = some k := by cases k <;> rfl

theorem TableId.ofNumber_unknown {n : Nat} (h : n = 0 ∨ 13 < n) : TableId.ofNumber n = none := by
  rcases h with rfl | h
  · rfl
  · obtain ⟨m, rfl⟩ := Nat.exists_eq_add_of_le' h
    rfl

theorem slotOrAbsent_iff (r : Rec) (i : Nat) : slotOrAbsent r i = true ↔ u8 r i < 96 ∨ u8 r i = 255 :=
  decide_eq_true_iff

theorem outputOrAbsent_iff (r : Rec) (i : Nat) : outputOrAbsent r i = true ↔ u8 r i < 48 ∨ u8 r i = 255 :=
  decide_eq_true_iff

theorem bit_zero_iff (r : Rec) (i : Nat) : bit r i 0 = true ↔ u8 r i % 2 = 1 := by
  rw [bit, bits, Nat.pow_zero, Nat.div_one, Nat.pow_one, beq_iff_eq]

/-- A check of the valid records alone. -/
theorem all_valid_iff (rs : List Rec) (p : Rec → Bool) :
    (rs.all fun r => !validField r || p r) = true ↔ ∀ r ∈ rs, u8 r 0 ≠ 0 → p r = true := by
  simp only [List.all_eq_true, Bool.or_eq_true, Bool.not_eq_true', validField, bne_eq_false_iff_eq,
    ne_eq, ← Decidable.or_iff_not_imp_left]

theorem validCab_eq (r : Rec) : validCab r = decide (u8 r 0 ≠ 0 ∧ u8 r 1 = 1) := by
  rw [validCab, validField, Bool.decide_and, decide_not, bne]
  rfl

/-! ### What the blocks take (R169) -/

/-- A window's entries replaced, the others kept. -/
theorem mapIdx_window {α : Type} (w : LoadWindow) {f g : Nat → α → α} (same : ∀ i l, f i l = g i l) (xs : List α) :
    (xs.mapIdx fun i l => if w.holds i then f i l else l) =
      xs.mapIdx fun i l => if w.first ≤ i ∧ i < w.first + w.count then g i l else l := by
  congr 1
  funext i l
  exact ite_iff decide_eq_true_iff (same i l) rfl

section
variable {w : LoadWindow} {s : State}

/-- A line slot of the window that was FRESH leaves for NEVER, where it reads its fallback without quality (R50, R54). -/
theorem activateSlots_eq : activateSlots w s =
    { s with
      slots := s.slots.mapIdx fun i l => if w.first ≤ i ∧ i < w.first + w.count then {} else l
      supply := { s.supply with notices := s.supply.notices ++ match (globals s.tables).lineSlot with
        | some i => if (w.first ≤ i ∧ i < w.first + w.count) ∧ (s.slot i).state = .fresh then
            [.lineLeave i .never (slotCfg s.tables i).fallback .none] else []
        | none => [] } } := by
  have window : (s.slots.mapIdx fun i l => if w.holds i then ({} : SlotLive) else l) = _ :=
    mapIdx_window w (fun _ _ => rfl) s.slots
  unfold activateSlots
  rw [window]
  generalize hleft : (s.slots.mapIdx fun i l => if w.first ≤ i ∧ i < w.first + w.count then {} else l) = left
  cases line : (globals s.tables).lineSlot with
  | none =>
    exact congrArg (fun n => { s with slots := left, supply := { s.supply with notices := n } }) (List.append_nil _).symm
  | some i =>
    refine congrArg (fun n => { s with slots := left, supply := { s.supply with notices := s.supply.notices ++ n } }) ?_
    show (if (w.holds i && (s.slot i).state == .fresh && (globals s.tables).lineSlot == some i) = true then _ else _) = _
    rw [line, beq_self_eq_true, Bool.and_true]
    dsimp only
    by_cases leaves : (w.first ≤ i ∧ i < w.first + w.count) ∧ (s.slot i).state = .fresh
    · obtain ⟨inside, fresh⟩ := leaves
      have held : w.holds i = true := decide_eq_true inside
      rw [if_pos (by rw [held, fresh]; rfl), if_pos (show _ ∧ _ from ⟨inside, fresh⟩)]
      have never : left.getD i {} = {} := by
        rw [← hleft, List.getD_eq_getElem?_getD, List.getElem?_mapIdx]
        cases s.slots[i]? with
        | none => rfl
        | some l => exact if_pos inside
      show [SupplyNotice.lineLeave i (left.getD i {}).state (effective s.tables left (some i)).1
        (effective s.tables left (some i)).2] = _
      simp only [effective, never]
    · rw [if_neg leaves, if_neg (by rwa [Bool.and_eq_true, beq_iff_eq, LoadWindow.holds, decide_eq_true_iff])]

/-- The mode slot's window makes the regulator derive the climate state anew (R61). -/
theorem takeActivation_slots_mode (hw : w.table = .slots) {i : Nat} (h : (globals s.tables).modeSlot = some i) :
    takeActivation w s = if w.holds i then deriveClimate ((activateSlots w s).read (some i)).1 (activateSlots w s)
      else activateSlots w s := by
  have tables : (activateSlots w s).tables = s.tables := activateSlots_only w s .tables (by decide)
  simp only [takeActivation, hw, h, rederiveClimate, tables]

theorem takeActivation_slots_noMode (hw : w.table = .slots) (h : (globals s.tables).modeSlot = none) :
    takeActivation w s = activateSlots w s := by
  simp only [takeActivation, hw, h]

theorem takeActivation_commandFrames (hw : w.table = .commandFrames) : takeActivation w s =
    s.setComposer { s.composer with
      schedules := s.composer.schedules.mapIdx fun n l => if w.holds n then activatedSchedule s n else l } := by
  simp only [takeActivation, hw]

theorem activatedZone_eq (z : Nat) (l : ZoneLive) : activatedZone s z l =
    { l with
      condition := .idle, integral := 0, rawDemand := 0, demand := 0, blower := 0, damper := 0, request := 0
      storageRequest := 0, hold := none, setpoint := 0, temp := 0, tier := .none, unpublished := true
      profile := if s.regulator.mode = .parked then 0
        else (zoneCfg s.tables z).profileMap.getD (s.regulator.mode.code - 1) 0
      step := if (zoneCfg s.tables z).valid = true then some (s.now + 1000) else none } := by
  have profile : profileFor s.tables z s.regulator.mode 0 = if s.regulator.mode = .parked then 0
      else (zoneCfg s.tables z).profileMap.getD (s.regulator.mode.code - 1) 0 := by
    cases s.regulator.mode <;> rfl
  rw [activatedZone, profile]
  rfl

theorem activatedDoor_eq (d : Nat) (l : DoorLive) : activatedDoor s d l =
    { state := .idle, stage := 0, ownStage := 0, heldStage := 0, fan := .off, debt := 0, ff := 0, request := 0
      openTimer := none, runOn := none, notices := l.notices
      period := if (doorCfg s.tables d).valid = true then some (s.now + 1000) else none
      signalLost := if (doorCfg s.tables d).valid = true ∧ s.doors.climate = .active then
        some (s.now + 1000 * (globals s.tables).signalLostTime) else none } := by
  unfold activatedDoor
  by_cases valid : (doorCfg s.tables d).valid = true
  · rw [if_pos valid, if_pos valid]
    cases climate : s.doors.climate with
    | active => rw [if_pos ⟨valid, rfl⟩]; rfl
    | standby => rw [if_neg (fun h => nomatch h.2)]; rfl
  · rw [if_neg valid, if_neg valid, if_neg (fun h => valid h.1)]
    rfl

/-! ### Served (R168) -/

variable {data : List Byte}

theorem serveActivate_unknown (h : TableId.ofNumber (u8 data 1) = none) :
    serveActivate data s = reply 4 .badTable s := by
  rw [serveActivate, h]

theorem serveActivate_incomplete {k : TableId} (hk : TableId.ofNumber (u8 data 1) = some k)
    (h : s.mgmt.load ≠ .complete) : serveActivate data s = reply 4 .badState s := by
  rw [serveActivate, hk]
  cases load : s.mgmt.load with
  | complete => exact absurd load h
  | empty => rfl
  | loading => rfl
  | failed => rfl

theorem serveActivate_complete {k : TableId} (hk : TableId.ofNumber (u8 data 1) = some k)
    (load : s.mgmt.load = .complete) (window : s.mgmt.window = some w) :
    serveActivate data s = if w.table = k then activateComplete w s else reply 4 .badTable s := by
  rw [serveActivate, hk, load, window]

theorem activateWindow_plain (hw : w.table ≠ .globals) (merged : List Rec) :
    activateWindow w merged s = reply 4 .ok (emptyLoad (goLive w merged s)) :=
  if_neg fun h => hw h.1

/-- A global record with another MB makes its change pending (R169, R171). -/
theorem activateWindow_globals {merged : List Rec} {taken : State} (hw : w.table = .globals)
    (htaken : emptyLoad (goLive w merged s) = taken) : activateWindow w merged s =
      if BitVec.ofNat 11 (globals taken.tables).managementBase = taken.classifier.mb then reply 4 .ok taken
      else replyThenSwitch 4 .newMb taken := by
  unfold activateWindow
  rw [htaken]
  dsimp only
  by_cases same : BitVec.ofNat 11 (globals taken.tables).managementBase = taken.classifier.mb
  · rw [if_pos same, if_neg (fun h => bne_iff_ne.mp h.2 same)]
  · rw [if_neg same, if_pos ⟨hw, bne_iff_ne.mpr same⟩]

end

/-- Settles O55: the checks table by table, the refusals in their order, then what each table's blocks take. -/
theorem activateReplacesWindow : Obligations.ActivateReplacesWindow := by
  refine ⟨fun _ _ _ => rfl, ?checks, ?served⟩
  case checks =>
    intro k rs slotOk outputOk each r0
    cases k with
    | frameHandling =>
      have long (r : Rec) : (!bit r 0 0 || decide (u8 r 7 ≤ 16 ∧ u8 r 6 + u8 r 7 ≤ 192)) = true ↔
          (u8 r 0 % 2 = 1 → u8 r 7 ≤ 16 ∧ u8 r 6 + u8 r 7 ≤ 192) := by
        rw [Bool.or_eq_true, Bool.not_eq_true', decide_eq_true_iff, Decidable.imp_iff_not_or, ← bit_zero_iff, Bool.not_eq_true]
      simp only [validTable, List.all_eq_true, long]
    | bindings => simp only [validTable, List.all_eq_true, decide_eq_true_iff]
    | slots => simp only [validTable, List.all_eq_true, slotOrAbsent_iff, slotOk]
    | zones =>
      have cabs : rs.filter validCab = rs.filter fun r => decide (u8 r 0 ≠ 0 ∧ u8 r 1 = 1) :=
        List.filter_congr fun r _ => validCab_eq r
      rw [validTable, Bool.and_eq_true, decide_eq_true_iff, all_valid_iff, cabs]
      simp [slotOrAbsent_iff, outputOrAbsent_iff, and_assoc, each, slotOk, outputOk]
    | outdoorCurve => simp [validTable, r0]
    | doors =>
      rw [validTable, all_valid_iff]
      simp [slotOrAbsent_iff, outputOrAbsent_iff, and_assoc, each, slotOk, outputOk]
    | screens =>
      rw [validTable, all_valid_iff]
      simp [slotOrAbsent_iff, outputOrAbsent_iff, and_assoc, each, slotOk, outputOk]
    | depression => simp [validTable, r0]
    | outputs =>
      rw [validTable, all_valid_iff]
      simp [slotOrAbsent_iff, each, slotOk]
    | globals => simp [validTable, slotOrAbsent_iff, slotOk, r0]
    | classMap => exact iff_of_true rfl trivial
    | commandFrames => exact iff_of_true rfl trivial
    | presets => exact iff_of_true rfl trivial
  case served =>
    intro a more rest s hcaptured noSwitch noStore s' emptied
    have served : exec .activate s = .next (serveActivate (4 :: a :: more) s') :=
      takeRequest_served hcaptured rfl (wellFormedRequest_of (n := 2) rfl (by simp)) noSwitch (.inl noStore)
    rw [served]
    refine ⟨fun unknown => ?_, ?_⟩
    · exact congrArg Host.Outcome.next (serveActivate_unknown (TableId.ofNumber_unknown unknown))
    · intro k w number merged inside live g answered
      have named : TableId.ofNumber (u8 (4 :: a :: more) 1) = some k :=
        (congrArg TableId.ofNumber number).symm.trans k.ofNumber_number
      have decided (load : s.mgmt.load = .complete) (window : s.mgmt.window = some w) (same : w.table = k) :
          serveActivate (4 :: a :: more) s' =
            if validTable k merged = true then activateWindow w merged s' else reply 4 .invalid (emptied s') := by
        refine Eq.trans (serveActivate_complete named load window) ((if_pos same).trans ?_)
        rw [activateComplete, same]
        rfl
      refine ⟨fun j => Tables.get_set _ _ _ _, fun load => ?_, fun load window other => ?_,
        fun load window same invalid => ?_, fun load window same valid => ?_⟩
      · exact congrArg Host.Outcome.next (serveActivate_incomplete named load)
      · exact congrArg Host.Outcome.next (Eq.trans (serveActivate_complete named load window) (if_neg other))
      · refine congrArg Host.Outcome.next ((decided load window same).trans (if_neg ?_))
        rw [invalid]
        decide
      · have went : serveActivate (4 :: a :: more) s' = activateWindow w merged s' :=
          (decided load window same).trans (if_pos valid)
        have gone : goLive w merged s' = takeActivation w live := by
          rw [goLive, same]
          rfl
        have plain {x : State} (other : k ≠ .globals) (taken : takeActivation w live = x) : answered x := by
          refine congrArg Host.Outcome.next (went.trans ?_)
          rw [activateWindow_plain (fun h => other (same.symm.trans h)), gone, taken]
          rfl
        cases k with
        | slots =>
          have told := activateSlots_eq (w := w) (s := live)
          cases mode : g.modeSlot with
          | none => exact plain nofun ((takeActivation_slots_noMode same mode).trans told)
          | some i =>
            refine plain nofun ((takeActivation_slots_mode same mode).trans ?_)
            rw [told]
            exact ite_iff decide_eq_true_iff rfl rfl
        | zones =>
          refine plain nofun ((takeActivation_zones same live).trans ?_)
          exact congrArg (fun zones => { live with regulator := { s.regulator with zones := zones } })
            (mapIdx_window w activatedZone_eq s.regulator.zones)
        | doors =>
          refine plain nofun ((takeActivation_doors same live).trans ?_)
          exact congrArg (fun doors => { live with doors := { s.doors with doors := doors } })
            (mapIdx_window w activatedDoor_eq s.doors.doors)
        | screens =>
          refine plain nofun ((takeActivation_screens same live).trans ?_)
          exact congrArg (fun channels => { live with screens := { s.screens with channels := channels } })
            (mapIdx_window w (fun _ _ => rfl) s.screens.channels)
        | outputs =>
          refine plain nofun ((takeActivation_outputs same live).trans ?_)
          exact congrArg (fun outputs => { live with composer := { s.composer with outputs := outputs } })
            (mapIdx_window w (fun _ _ => rfl) s.composer.outputs)
        | commandFrames =>
          refine plain nofun ((takeActivation_commandFrames same).trans ?_)
          exact congrArg (fun schedules => { live with composer := { s.composer with schedules := schedules } })
            (mapIdx_window w (fun _ _ => rfl) s.composer.schedules)
        | presets =>
          refine plain nofun ((takeActivation_presets same live).trans ?_)
          refine congrArg (fun entries => { live with overrides := { s.overrides with entries := entries } }) ?_
          refine List.filter_congr fun e _ => ?_
          rw [decide_not]
          rfl
        | globals =>
          have derived : goLive w merged s' = deriveClimate (live.read g.modeSlot).1 live :=
            gone.trans (takeActivation_globals same live)
          have base : (emptied (deriveClimate (live.read g.modeSlot).1 live)).tables = live.tables :=
            deriveClimate_only (live.read g.modeSlot).1 live .tables (by decide)
          refine congrArg Host.Outcome.next (went.trans ?_)
          refine (activateWindow_globals same (congrArg emptied derived)).trans ?_
          rw [base]
          rfl
        | frameHandling => exact plain nofun (by simp only [takeActivation, same])
        | classMap => exact plain nofun (by simp only [takeActivation, same])
        | bindings => exact plain nofun (by simp only [takeActivation, same])
        | outdoorCurve => exact plain nofun (by simp only [takeActivation, same])
        | depression => exact plain nofun (by simp only [takeActivation, same])

end Sys2Proof.Machine
end
